-- ==== Sys2Proof/Word.lean ====
section
/-! DEFINITION. The plainest types of the model: the byte of the serial links, the seven zones and a value kept for each
zone, and the label of a cartridge. Nothing here computes anything the spec states beyond the zone numbers of R29. -/

namespace Sys2Proof

/-- One byte of a serial link (R165). -/
abbrev Byte := BitVec 8

/-- The seven zones of R29: the storage zones Z1 to Z6 and the hatch and conditioning chamber ZC. -/
inductive Zone where
  | z1 | z2 | z3 | z4 | z5 | z6 | zc
  deriving DecidableEq, Repr, Inhabited

/-- The zone's number in every request and report, 1 to 7 (R29). -/
def Zone.number : Zone → Nat
  | .z1 => 1
  | .z2 => 2
  | .z3 => 3
  | .z4 => 4
  | .z5 => 5
  | .z6 => 6
  | .zc => 7

/-- The zone of a number, absent outside 1..7 (R29). -/
def Zone.ofNumber : Nat → Option Zone
  | 1 => some .z1
  | 2 => some .z2
  | 3 => some .z3
  | 4 => some .z4
  | 5 => some .z5
  | 6 => some .z6
  | 7 => some .zc
  | _ => none

/-- All seven zones, in the order of their numbers. -/
def Zone.all : List Zone := [.z1, .z2, .z3, .z4, .z5, .z6, .zc]

/-- One value for each of the seven zones (and so for each climate channel and detector loop, R29). -/
structure PerZone (α : Type) where
  z1 : α
  z2 : α
  z3 : α
  z4 : α
  z5 : α
  z6 : α
  zc : α
  deriving DecidableEq, Repr, Inhabited

/-- The value kept for a zone. -/
def PerZone.get {α : Type} (p : PerZone α) : Zone → α
  | .z1 => p.z1
  | .z2 => p.z2
  | .z3 => p.z3
  | .z4 => p.z4
  | .z5 => p.z5
  | .z6 => p.z6
  | .zc => p.zc

/-- The same values but for one zone. -/
def PerZone.set {α : Type} (p : PerZone α) (z : Zone) (a : α) : PerZone α :=
  match z with
  | .z1 => { p with z1 := a }
  | .z2 => { p with z2 := a }
  | .z3 => { p with z3 := a }
  | .z4 => { p with z4 := a }
  | .z5 => { p with z5 := a }
  | .z6 => { p with z6 := a }
  | .zc => { p with zc := a }

/-- The values that a function gives for each zone. -/
def PerZone.tabulate {α : Type} (f : Zone → α) : PerZone α :=
  { z1 := f .z1, z2 := f .z2, z3 := f .z3, z4 := f .z4, z5 := f .z5, z6 := f .z6, zc := f .zc }

/-- A label as it travels on the links: 8 bytes (Conventions, Labels; R173). Whether they are letters and digits is
tested by the requests that take one. -/
abbrev Label := Vector Byte 8

/-- An access code as it travels on the links: 6 bytes (R173), tested to be digits by ENROL_COURIER and IDENTIFY. -/
abbrev AccessCode := Vector Byte 6

end Sys2Proof
end

