-- ==== Sys2Proof/Syntax.lean ====
section
/-! DEFINITION. The commands of the part: one constructor for each row of spec/opcode_table.json. A request carries its
parameters at the widths of R173, untested; an event carries what the outside world brings with it. -/

namespace Sys2Proof

/-- The two serial links (R165): FL to the host, HL to the courier terminal. -/
inductive LinkId where
  | facility | hatch
  deriving DecidableEq, Repr, Inhabited

/-- One climate sample's raw counts, each the converter's 12 bits (R94). -/
structure RawCounts where
  t : BitVec 12
  h : BitVec 12
  deriving DecidableEq, Repr, Inhabited

/-- The commands, one for each row of the opcode table. -/
inductive Instr where
  -- Custody table (R8 to R18)
  | enroll (label : Label) (cls : Byte) (slot : BitVec 16)
  | lookup (label : Label)
  | slotQuery (slot : BitVec 16)
  | nextLabel (label : Label)
  | place (label : Label) (slot : BitVec 16)
  | relocate (label : Label) (slot : BitVec 16)
  | unbind (label : Label)
  | retire (label : Label)
  | clearMark (label : Label) (mark : Byte)
  | setClass (label : Label) (cls : Byte)
  | extendDue (label : Label) (hours : BitVec 16)
  -- Handover manifest, facility side (R73 to R89)
  | openManifest (direction courier : Byte) (consignment dueHours : BitVec 16)
  | addItem (label : Label)
  | dropItem (label : Label)
  | offerManifest
  | cancelManifest
  | readManifest
  | releaseManifest
  -- Courier table (R49 to R52)
  | enrolCourier (entry : Byte) (badge : BitVec 24) (code : AccessCode)
  | revokeCourier (entry : Byte)
  | unlockCourier (entry : Byte)
  | readCourier (entry : Byte)
  -- Zones, climate and conditioning (R33 to R47, R107 to R126)
  | setZoneMode (zone mode : Byte)
  | setBoundary (boundary value : Byte)
  | setClimate (zone period staleLimit : Byte) (rhTarget : BitVec 16) (rhBand : Byte) (tTarget : BitVec 16) (tBand recovery : Byte) (alert exposure : BitVec 24)
  | readZone (zone : Byte)
  | resetDose (zone : Byte)
  | setTrim (zone trimT trimH : Byte)
  | setStartMode (zone mode : Byte)
  | setConditioning (kT kH base : Byte)
  | readConditioning
  -- Loops and release (R136 to R164)
  | setLoop (loop : Byte) (openMax normalMax alarmMax : BitVec 16) (policy capture : Byte)
  | loopReturn (loop : Byte)
  | clearLoopFlags (loop : Byte) (openSeen shortSeen alarmSeen : Bool)
  | abortRelease (zone : Byte)
  | manualRelease (zone : Byte)
  | resetAlarm (zone : Byte)
  | bankReloaded
  /-- SET_RELEASE's scope and the four bytes that follow it (R173): what they say depends on the scope. -/
  | setRelease (scope b0 b1 b2 b3 : Byte)
  -- Events, clock, lines, settings (R75, R22, R165, R171, R180 to R187)
  | status
  | clearEvents (choice : BitVec 24)
  | setEventEnable (enables : BitVec 24)
  | setClock (count : BitVec 32)
  | readClock
  | setLine (line : Byte) (level : Bool)
  | setExpect (levels : BitVec 16)
  | setLineFunction (direction line function zone : Byte)
  | setTimers (handover release openLimit : BitVec 16)
  | setClassLimit (cls : Byte) (limit : BitVec 16)
  | storeSettings
  | setLinkRate (link divisor : Byte)
  | identifyPart
  -- Hatch requests (R55 to R65, R80 to R90)
  | identify (badge : BitVec 24) (code : AccessCode)
  | declare (consignment : BitVec 16) (caseT caseH : Option (BitVec 16))
  | deposit (label : Label)
  | accept (label : Label)
  | decline (label : Label)
  | view
  | finish
  | leave
  | hatchStatus
  -- Events on the links (R165 to R172)
  | unknownRequest (link : LinkId) (code : Byte) (params : List Byte)
  | frameDiscard (link : LinkId)
  | frameGapTimeout (link : LinkId)
  | responseSent (link : LinkId)
  -- Timers that run out
  | handoverTimerExpiry
  | releaseTimerExpiry
  | hatchOpenLimitReached
  | verificationWindowExpiry (zone : Zone)
  | countdownExpiry (zone : Zone)
  | releasePulseEnd
  -- Samples, ticks and lines
  | climateSample (zone : Zone) (counts : RawCounts)
  | loopSample (loop : Zone) (count : BitVec 12)
  | elapsedMinuteTick
  | elapsedHourTick
  | siteClockSecond
  | storeWriteComplete
  /-- The level is the line's new debounced level, true for asserted (pin held low, R181). -/
  | inputLineChange (line : Fin 12) (level : Bool)
  -- Power, reset and start-up (R172, R183, R187 to R190)
  | resetAssert
  | powerLoss
  | startUp
  /-- What the pins show as start-up completes: the levels of IN0..IN11 (bit n for INn, 1 asserted), and the first raw
  counts of the seven climate channels and the seven loops (R94, R127, R181). -/
  | startUpComplete (pins : BitVec 12) (climate : PerZone RawCounts) (loops : PerZone (BitVec 12))
  | backupBelowRetention
  /-- One character; stopOk is false when its stop bit was read as 0 (R167). -/
  | characterReceived (link : LinkId) (char : Byte) (stopOk : Bool)
  deriving DecidableEq, Repr, Inhabited

end Sys2Proof
end

