-- ==== Sys2Proof/Machine/Types.lean ====
section
/-! DEFINITION. The kinds of data State is made of, block by block: custody records, couriers, the manifest, climate,
loops, the fire sequence, the lines, the links, the settings and the store. Each type cites the rule whose table it is. -/

namespace Sys2Proof.Machine

/-! ## Status codes and events -/

/-- The outcome of a request (R170's table of STATUS names). -/
inductive Status where
  | ok | unknownRequest | badParam | notFound | alreadyExists | tableFull | slotTaken | wrongState | zoneFire | zoneMode
  | excursion | marked | busy | manifestFull | wrongCourier | codeRefused | courierLocked | tooLate | order | slotsBound
  | stillActive | clockInvalid | notIdentified | storeBusy
  deriving DecidableEq, Repr, Inhabited

/-- The 24 event flags (R179). -/
inductive EventFlag where
  | discharge | countdown | bankStarved | zoneAlarm | zonePrealarm | loopIsolated | hatchForced | climateExcursion
  | sensorStale | loopWarn | loopRecovered | hatchHeld | courierLocked | manifestClosed | courierMissed | facilityMissed
  | holdDone | overdue | climateAlert | linkFault | hatchLinkFault | inputChange | restarted | retainedLost
  deriving DecidableEq, Repr, Inhabited

/-! ## Custody table -/

/-- The four marks of a record (R19), each carried or not. -/
structure Marks where
  exposed : Bool
  agent : Bool
  overdue : Bool
  worn : Bool
  deriving DecidableEq, Repr, Inhabited

/-- A record's state with the part that follows it (R2): the custody part of an OUT record, the conditioning part of a
CONDITIONING one. -/
inductive RecordState where
  | shelved
  | staged
  | out (courier : Fin 16) (consignment : BitVec 16) (dueHour : Nat)
  | conditioning (hold : Nat)
  | ready
  | unplaced
  deriving DecidableEq, Repr, Inhabited

/-- A media record (section 1.1). -/
structure Record where
  label : Label
  cls : Fin 8
  state : RecordState
  home : Option (Fin 1536)
  marks : Marks
  count : Nat
  deriving DecidableEq, Repr, Inhabited

/-- The five programmable boundaries B1 to B5, each the last unit of its zone (R30). -/
structure Bounds where
  b1 : Nat
  b2 : Nat
  b3 : Nat
  b4 : Nat
  b5 : Nat
  deriving DecidableEq, Repr, Inhabited

/-- An enrolled entry of the courier table (R48). The code is the value of its six digits. -/
structure Courier where
  badge : BitVec 24
  code : Nat
  attempts : Nat
  locked : Bool
  deriving DecidableEq, Repr, Inhabited

/-! ## Zones, climate, loops and fire -/

/-- A zone's mode (R35). -/
inductive ZoneMode where
  | offline | online | frozen
  deriving DecidableEq, Repr, Inhabited

/-- A zone's climate state (R103). -/
inductive ClimateState where
  | nominal | alert | excursion
  deriving DecidableEq, Repr, Inhabited

/-- The retained part of a zone's climate accounting (R105). -/
structure ClimateAccount where
  dose : Nat
  state : ClimateState
  deriving DecidableEq, Repr, Inhabited

/-- How current a zone's reading is (section 5.2). -/
inductive ReadingStatus where
  | fresh | stale | unknown
  deriving DecidableEq, Repr, Inhabited

/-- A converted reading, temperature and humidity in tenths (R96). -/
structure Reading where
  t : Int
  rh : Int
  deriving DecidableEq, Repr, Inhabited

/-- A zone's reading state (section 5.2): none of it is retained. -/
structure Sensor where
  reading : Option Reading
  status : ReadingStatus
  staleCount : Nat
  lastGood : Bool
  raw : Option RawCounts
  weight : Nat
  deriving DecidableEq, Repr, Inhabited

/-- The class of a loop sample (R128). -/
inductive LoopClass where
  | openCircuit | normal | alarm | short
  deriving DecidableEq, Repr, Inhabited

/-- The loop state (R130, R131). -/
inductive LoopState where
  | sound | warn | degraded | isolated
  deriving DecidableEq, Repr, Inhabited

/-- The recovery policy of a loop (section 7.3). -/
inductive Policy where
  | auto | freezeAtIsolate | freezeAtRecovery | onRequest
  deriving DecidableEq, Repr, Inhabited

/-- The capture mode of a loop's fault flags (R138). -/
inductive Capture where
  | all | first
  deriving DecidableEq, Repr, Inhabited

/-- The fault flags of a loop (R138). -/
structure FaultFlags where
  openSeen : Bool
  shortSeen : Bool
  alarmSeen : Bool
  deriving DecidableEq, Repr, Inhabited

/-- What LS keeps for one loop (Chapter 7). The latest sample is its loop value and class, absent until the first. -/
structure Loop where
  state : LoopState
  trouble : Nat
  run : Nat
  ready : Bool
  flags : FaultFlags
  latest : Option (Nat × LoopClass)
  deriving DecidableEq, Repr, Inhabited

/-- A zone's fire state with the timers that are present with it (R145). Times left are in milliseconds. -/
inductive FireState where
  | quiet
  | prealarm (left : Nat)
  | alarmed
  | countdown (left : Nat) (held : Bool)
  | discharged
  | starved
  deriving DecidableEq, Repr, Inhabited

/-- A zone's alarm time: the site clock's value and valid flag at the latest entry into PREALARM (R146). -/
structure AlarmTime where
  value : Nat
  valid : Bool
  deriving DecidableEq, Repr, Inhabited

/-- The live state of one zone: ZN's mode, CL's reading state, LS's loop, RS's fire sequence record, and the two sample
timers, each in milliseconds to the next sample (R94, R127). -/
structure ZoneState where
  mode : ZoneMode
  sensor : Sensor
  loop : Loop
  fire : FireState
  alarmTime : Option AlarmTime
  sampleLeft : Nat
  loopLeft : Nat
  deriving DecidableEq, Repr, Inhabited

/-- A bank state as the settings store records it (R188). -/
inductive BankRecord where
  | ready | committed | spent
  deriving DecidableEq, Repr, Inhabited

/-- The live agent bank (R155): the committed zone and the pulse's milliseconds left are present while COMMITTED. -/
inductive Bank where
  | ready
  | committed (zone : Zone) (left : Nat)
  | spent
  deriving DecidableEq, Repr, Inhabited

/-! ## The manifest and the hatch -/

/-- The state of an item with what is present with it (R67). -/
inductive ItemState where
  | listed | accepted | declined
  | returned (hold : Nat) (otherCourier : Bool)
  | conflict | unknown
  deriving DecidableEq, Repr, Inhabited

/-- One item of the manifest (R67). -/
structure Item where
  label : Label
  state : ItemState
  deriving DecidableEq, Repr, Inhabited

/-- Why a manifest closed (R66). -/
inductive Cause where
  | complete | timeout | cancelled | fire | left
  deriving DecidableEq, Repr, Inhabited

/-- The state of a manifest that is not FREE (R66); the closure cause is present in CLOSED only. -/
inductive Stage where
  | building | offered | active
  | closed (cause : Cause)
  deriving DecidableEq, Repr, Inhabited

/-- The direction of a manifest with the fields that follow it (R66). The direction decides the origin link: FACILITY
for OUTBOUND and HATCH for INBOUND. -/
inductive Route where
  | outbound (dueHours : Nat)
  | inbound (caseT caseH : Option Int)
  deriving DecidableEq, Repr, Inhabited

/-- The manifest while it is not FREE (R66). -/
structure Manifest where
  stage : Stage
  route : Route
  courier : Fin 16
  consignment : BitVec 16
  items : List Item
  deriving DecidableEq, Repr, Inhabited

/-- The hatch link state, with the courier while IDENTIFIED (R53). -/
inductive HatchState where
  | idle
  | identified (courier : Fin 16)
  | lapsed
  deriving DecidableEq, Repr, Inhabited

/-- An opening of the door (R62, R64): the milliseconds left of the hatch open limit that was in force when it began, and
whether the limit has been reached and HATCH_HELD raised. -/
structure Opening where
  left : Nat
  held : Bool
  deriving DecidableEq, Repr, Inhabited

/-! ## Lines and links -/

/-- The function of an input line (R181). -/
inductive InputFunction where
  | none | hatchDoor | abort
  | manualRelease (zone : Zone)
  | bankLow
  deriving DecidableEq, Repr, Inhabited

/-- The function of an output line (R183). -/
inductive OutputFunction where
  | none | hatchLock | sounder | predischarge
  | release (zone : Zone)
  | bankRelease
  deriving DecidableEq, Repr, Inhabited

/-- A link's receiver (R167): hunting, receiving with LENGTH still to come, or receiving with LENGTH known and the
characters after it taken so far, in order. -/
inductive Receiver where
  | hunting
  | awaitLength
  | body (length : Nat) (taken : List Byte)
  deriving DecidableEq, Repr, Inhabited

/-- A response (R170): its CODE, its STATUS and its results. -/
structure Response where
  code : Byte
  status : Status
  results : List Byte
  deriving DecidableEq, Repr, Inhabited

/-- A link's request state (R168): the request that is with its owner while TAKEN, the response while SENDING. -/
inductive RequestState where
  | waiting
  | taken (request : Instr)
  | sending (response : Response)
  deriving DecidableEq, Repr, Inhabited

/-- One serial link: its receiver, the milliseconds left of the gap allowed before the next character of the frame in
reception (R167), its request state, the divisor of the rate in force, and whether the request that is TAKEN, or its
response, keeps the link at that rate: its frame was in reception when a new divisor was set, so it is answered at the rate at
which it came (R165). -/
structure Link where
  rx : Receiver
  gapLeft : Nat
  request : RequestState
  rate : BitVec 8
  rateHeld : Bool
  deriving DecidableEq, Repr, Inhabited

/-- What becomes of a request at its link (R167, R168): its owner takes it; it completes a frame while another request is
still unanswered; or no frame of it can complete now. -/
inductive Admission where
  | take | overrun | lost
  deriving DecidableEq, Repr, Inhabited

/-! ## Settings -/

/-- The climate settings of a zone that SET_CLIMATE sets (section 5.5). -/
structure ClimateSettings where
  period : Nat
  staleLimit : Nat
  rhTarget : Int
  rhBand : Int
  tTarget : Int
  tBand : Int
  recovery : Nat
  alert : Nat
  exposure : Nat
  deriving DecidableEq, Repr, Inhabited

/-- The trims of a channel (R96). -/
structure Trims where
  t : Int
  h : Int
  deriving DecidableEq, Repr, Inhabited

/-- The settings of a loop (section 7.5). -/
structure LoopSettings where
  openMax : Nat
  normalMax : Nat
  alarmMax : Nat
  policy : Policy
  capture : Capture
  deriving DecidableEq, Repr, Inhabited

/-- The release settings of a zone (section 8.6). -/
structure ReleaseSettings where
  enabled : Bool
  heatAbs : Int
  heatRise : Int
  deriving DecidableEq, Repr, Inhabited

/-- The tunables that belong to one zone. -/
structure ZoneSettings where
  startMode : ZoneMode
  climate : ClimateSettings
  trims : Trims
  loop : LoopSettings
  release : ReleaseSettings
  deriving DecidableEq, Repr, Inhabited

/-- The global release settings, in seconds (section 8.6). -/
structure ReleaseTimes where
  window : Nat
  countdown : Nat
  pulse : Nat
  deriving DecidableEq, Repr, Inhabited

/-- The conditioning coefficients (R116). -/
structure Coefficients where
  kT : Nat
  kH : Nat
  base : Nat
  deriving DecidableEq, Repr, Inhabited

/-- The three timer lengths of HU, in seconds (R75). -/
structure TimerLengths where
  handover : Nat
  release : Nat
  openLimit : Nat
  deriving DecidableEq, Repr, Inhabited

/-- Every tunable of the settings store (R186). Levels are one bit a line, 1 asserted (R173). -/
structure Tunables where
  zones : PerZone ZoneSettings
  release : ReleaseTimes
  conditioning : Coefficients
  timers : TimerLengths
  classLimits : Vector Nat 8
  enables : BitVec 24
  inputs : Vector InputFunction 12
  expected : BitVec 12
  outputs : Vector OutputFunction 12
  hostLevels : BitVec 12
  facilityDivisor : BitVec 8
  hatchDivisor : BitVec 8
  deriving DecidableEq, Repr, Inhabited

/-- The values that the settings store holds, one for every tunable (R186). -/
inductive StoredValue where
  | startMode (z : Zone)
  | climate (z : Zone) (field : Fin 9)
  | trim (z : Zone) (field : Fin 2)
  | loop (z : Zone) (field : Fin 5)
  | release (z : Zone) (field : Fin 3)
  | releaseTime (field : Fin 3)
  | coefficient (field : Fin 3)
  | timer (field : Fin 3)
  | classLimit (c : Fin 8)
  | enable (bit : Fin 24)
  | input (line : Fin 12)
  | expected (line : Fin 12)
  | output (line : Fin 12)
  | hostLevel (line : Fin 12)
  | divisor (k : LinkId)
  deriving DecidableEq, Repr, Inhabited

/-- The settings store (R186 to R188): the stored tunables, the valid mark, the bank record (none while never written),
and, while a store write is in progress, the tunables being written. -/
structure Store where
  stored : Tunables
  valid : Bool
  bank : Option BankRecord
  writing : Option Tunables
  deriving DecidableEq, Repr, Inhabited

/-- Retained memory (R189). The records stand in the order of their labels, which is the label index (R3); the slot map is
each record's home slot (R4). A courier entry is none while not enrolled (R48). -/
structure Retained where
  records : List Record
  bounds : Bounds
  couriers : Vector (Option Courier) 16
  climate : PerZone ClimateAccount
  clock : Nat
  clockValid : Bool
  pendingBank : Option BankRecord
  deriving DecidableEq, Repr, Inhabited

/-- What the part is doing: running; starting up, with whether retained memory was found lost; held by the RESET pin; or
without main power (R172, R183, R189, R190). -/
inductive Phase where
  | running
  | starting (lost : Bool)
  | inReset
  | unpowered
  deriving DecidableEq, Repr, Inhabited

end Sys2Proof.Machine
end

