-- ==== Sys2Proof/Machine/Factory.lean ====
section
/-! DEFINITION. The factory values of every tunable (section 11.4), the values retained memory takes after a loss (R189),
and what each block begins with at a start-up (R190). -/

namespace Sys2Proof.Machine

/-- A zone's factory settings (section 11.4). -/
def ZoneSettings.factory : ZoneSettings :=
  { startMode := .offline
    climate :=
      { period := 10, staleLimit := 3, rhTarget := 350, rhBand := 50, tTarget := 180, tBand := 20, recovery := 5,
        alert := 2000, exposure := 6000 }
    trims := { t := 0, h := 0 }
    loop := { openMax := 120, normalMax := 480, alarmMax := 860, policy := .auto, capture := .all }
    release := { enabled := true, heatAbs := 570, heatRise := 40 } }

/-- The factory value of every tunable (section 11.4). -/
def Tunables.factory : Tunables :=
  { zones := PerZone.tabulate fun _ => ZoneSettings.factory
    release := { window := 60, countdown := 30, pulse := 3 }
    conditioning := { kT := 4, kH := 2, base := 30 }
    timers := { handover := 120, release := 300, openLimit := 60 }
    classLimits := Vector.replicate 8 0
    enables := 0xFFFFFF
    inputs := Vector.replicate 12 .none
    expected := 0
    outputs := Vector.replicate 12 .none
    hostLevels := 0
    facilityDivisor := 63
    hatchDivisor := 63 }

/-- The boundaries after a loss of retained memory (R32). -/
def Bounds.factory : Bounds := { b1 := 3, b2 := 7, b3 := 11, b4 := 15, b5 := 19 }

/-- Retained memory as start-up sets it when it finds it lost (R189). -/
def Retained.afterLoss : Retained :=
  { records := []
    bounds := Bounds.factory
    couriers := Vector.replicate 16 none
    climate := PerZone.tabulate fun _ => { dose := 0, state := .nominal }
    clock := 0
    clockValid := false
    pendingBank := none }

/-- A record's mark set when it is made (R8). -/
def Marks.none : Marks := { exposed := false, agent := false, overdue := false, worn := false }

/-- A zone's reading state at a start-up (R99). -/
def Sensor.atStart : Sensor :=
  { reading := Option.none, status := .unknown, staleCount := 0, lastGood := false, raw := Option.none, weight := 0 }

/-- A loop's state at a start-up (R144). -/
def Loop.atStart : Loop :=
  { state := .sound, trouble := 0, run := 0, ready := false,
    flags := { openSeen := false, shortSeen := false, alarmSeen := false }, latest := Option.none }

/-- A zone at a start-up: its stored start mode (R46), and everything else afresh (R99, R144, R145). Its first samples are
due as start-up completes (R94, R127). -/
def ZoneState.atStart (mode : ZoneMode) : ZoneState :=
  { mode := mode, sensor := Sensor.atStart, loop := Loop.atStart, fire := .quiet, alarmTime := Option.none,
    sampleLeft := 0, loopLeft := 0 }

/-- A link at a start-up: hunting, WAITING, at its loaded divisor (R172). -/
def Link.atStart (divisor : BitVec 8) : Link :=
  { rx := .hunting, gapLeft := 0, request := .waiting, rate := divisor, rateHeld := false }

/-- The live bank that start-up reads from the bank record (R188): COMMITTED is taken as SPENT, and a record never written
reads READY. -/
def Bank.ofRecord : Option BankRecord → Bank
  | Option.none => .ready
  | some .ready => .ready
  | some .committed => .spent
  | some .spent => .spent

end Sys2Proof.Machine
end

