-- ==== Sys2Proof/Machine/State.lean ====
section
/-! DEFINITION. The state of the part, the reasons a step can stop, and the state right after reset. -/

namespace Sys2Proof.Machine

/-- The whole state of the part. Retained memory, the settings store, the live tunables and the live state of every block
are held apart, because a start-up treats them apart (R186, R189, R190). Times are in milliseconds. -/
structure State where
  /-- Running, starting up, held in reset or without main power. -/
  phase : Phase
  /-- The backup monitor: the backup supply fell below retention while main power was absent (R189). -/
  monitorFell : Bool
  /-- Retained memory (R189). -/
  ret : Retained
  /-- The settings store (R186). -/
  store : Store
  /-- The live tunables (R186). -/
  live : Tunables
  /-- Each zone's mode, reading state, loop and fire sequence. -/
  zones : PerZone ZoneState
  /-- The agent bank (R155). -/
  bank : Bank
  /-- The manifest, none while FREE (R66). -/
  manifest : Option Manifest
  /-- The hatch link state (R53). -/
  hatch : HatchState
  /-- Time left of the handover timer, none while stopped (R54). -/
  handoverTimer : Option Nat
  /-- Time left of the release timer, none while stopped (R73). -/
  releaseTimer : Option Nat
  /-- The opening of the door under way, none while it is closed (R62). -/
  opening : Option Opening
  /-- The debounced levels of IN0..IN11, bit n for INn, 1 asserted (R181). -/
  levels : BitVec 12
  /-- The event flags, the flag of priority p at bit p - 1 (R177, R179). -/
  flags : BitVec 24
  /-- The facility link. -/
  fl : Link
  /-- The hatch link. -/
  hl : Link
  /-- Time left to the site clock's next second (R185). -/
  secondLeft : Nat
  /-- Running time left to the next minute tick (R185). -/
  minuteLeft : Nat
  /-- Running time left to the next hour tick (R185). -/
  hourLeft : Nat
  /-- THE MODEL'S OWN: how many free values have been drawn (log entry 8). -/
  freeIndex : Nat
  /-- THE MODEL'S OWN: the commands that wait, first in, first out. -/
  pending : List Instr
  deriving DecidableEq, Repr, Inhabited

/-- Why the machine stops with a fault. There is no such reason: the spec answers every request with a status and lets
every event change the state or nothing, so no rule of it stops the part. Nothing raises a fault. -/
inductive Fault where
  deriving DecidableEq, Repr

/-- Why a command is refused by the model. -/
inductive Refusal where
  /-- A command of the opcode table that has no meaning yet; raised by exec's arm for it. Safe: the run stops. -/
  | notModelled (mnemonic : String)
  deriving DecidableEq, Repr

/-- The part right after reset: a new part at its first power-on, when the parts of start-up that read memory have been
taken (R190) and start-up has not completed. Retained memory was found lost (R189), the store was never written (R186,
R188), and every block stands as R190's table says. Log entries 4, 5 and 6. -/
def State.reset : State :=
  { phase := .starting true
    monitorFell := true
    ret := Retained.afterLoss
    store := { stored := Tunables.factory, valid := false, bank := none, writing := none }
    live := Tunables.factory
    zones := PerZone.tabulate fun _ => ZoneState.atStart .offline
    bank := .ready
    manifest := none
    hatch := .idle
    handoverTimer := none
    releaseTimer := none
    opening := none
    levels := 0
    flags := 0
    fl := Link.atStart 63
    hl := Link.atStart 63
    secondLeft := 1000
    minuteLeft := 60000
    hourLeft := 3600000
    freeIndex := 0
    pending := [] }

end Sys2Proof.Machine
end

