-- ==== Sys2Proof/Machine/Flags.lean ====
section
/-! DEFINITION. The event flags and the attention output (R177, R179), and the marks of a record (R19, R174). -/

namespace Sys2Proof.Machine

/-- The flag's priority, 1 the most urgent (R179). -/
def EventFlag.priority : EventFlag → Nat
  | .discharge => 1
  | .countdown => 2
  | .bankStarved => 3
  | .zoneAlarm => 4
  | .zonePrealarm => 5
  | .loopIsolated => 6
  | .hatchForced => 7
  | .climateExcursion => 8
  | .sensorStale => 9
  | .loopWarn => 10
  | .loopRecovered => 11
  | .hatchHeld => 12
  | .courierLocked => 13
  | .manifestClosed => 14
  | .courierMissed => 15
  | .facilityMissed => 16
  | .holdDone => 17
  | .overdue => 18
  | .climateAlert => 19
  | .linkFault => 20
  | .hatchLinkFault => 21
  | .inputChange => 22
  | .restarted => 23
  | .retainedLost => 24

/-- The 24-bit number with the one flag set: priority p at bit p - 1 (R177). -/
def EventFlag.mask (f : EventFlag) : BitVec 24 := 1#24 <<< (f.priority - 1)

/-- A cause raises a flag, whatever its enable; a flag already set stays set (R179). -/
def State.raise (s : State) (f : EventFlag) : State := { s with flags := s.flags ||| f.mask }

/-- A flag is raised when a condition holds. -/
def State.raiseIf (s : State) (c : Bool) (f : EventFlag) : State := if c then s.raise f else s

/-- A flag is set. -/
def State.flag (s : State) (f : EventFlag) : Bool := s.flags.getLsbD (f.priority - 1)

/-- The lowest priority number among the set flags, enabled or not, and 0 when none is set (R180). -/
def highestPending (flags : BitVec 24) : Nat :=
  match (List.range 24).find? fun i => flags.getLsbD i with
  | some i => i + 1
  | none => 0

/-- ATTN is driven low: the part is running, and a flag is both set and enabled (R179). -/
def State.attentionLow (s : State) : Bool :=
  decide (s.phase = .running) && decide (s.flags &&& s.live.enables ≠ 0)

/-- The mark numbers of CLEAR_MARK (R16): the mark set without the mark of a number. -/
def Marks.without (m : Marks) (n : Nat) : Marks :=
  match n with
  | 0 => { m with exposed := false }
  | 1 => { m with agent := false }
  | 2 => { m with overdue := false }
  | 3 => { m with worn := false }
  | _ => m

/-- The mark byte of the record summary (R174). -/
def Marks.number (m : Marks) : Nat :=
  (if m.exposed then 1 else 0) + (if m.agent then 2 else 0) + (if m.overdue then 4 else 0) + (if m.worn then 8 else 0)

end Sys2Proof.Machine
end

