-- ==== Sys2Proof/Config.lean ====
section
/-! DEFINITION. What is fixed for the machine as a whole: the capacities the spec gives, the identity of the part, and the
FREE VALUES, the constants without a body that stand for what the spec leaves open. -/

namespace Sys2Proof

open Sys2Proof.Machine

/-- The custody table's capacity (R1). -/
def Config.tableSize : Nat := 2048

/-- The manifest's capacity (R68). -/
def Config.manifestSize : Nat := 24

/-- The crystal's frequency in hertz, from which the link rates are derived (R165). -/
def Config.crystal : Nat := 9830400

/-- FREE VALUE. What a yes-or-no or level byte other than 0 and 1 stands for: R173 encodes the two values as 1 and 0 and
says nothing of the others. Log entry 7. -/
opaque Config.yesNoOfByte : Byte → Bool

/-- FREE VALUE. Whether the n-th store write that a reset or a loss of power cut short had written a value: R187 says only
that the stored tunables may then be partly old and partly new. Log entry 8. -/
opaque Config.tornTakesNew : Nat → StoredValue → Bool

end Sys2Proof
end

