-- ==== Sys2Proof/Machine/Operands.lean ====
section
/-! DEFINITION. Parameters and results: the field encodings of R173, the tests of parameters that requests share, and the
numbers by which states, modes and functions are named on the links. -/

namespace Sys2Proof.Machine

/-! ## Numbers to bytes, most significant byte first (R173) -/

/-- One byte of a number. -/
def byteOf (n : Nat) : Byte := BitVec.ofNat 8 n

/-- A number in two bytes. -/
def be16 (n : Nat) : List Byte := [byteOf (n / 256), byteOf n]

/-- A number in three bytes. -/
def be24 (n : Nat) : List Byte := [byteOf (n / 65536), byteOf (n / 256), byteOf n]

/-- A number in four bytes. -/
def be32 (n : Nat) : List Byte := [byteOf (n / 16777216), byteOf (n / 65536), byteOf (n / 256), byteOf n]

/-- A signed number in two bytes, two's complement. -/
def beS16 (i : Int) : List Byte := be16 (BitVec.ofInt 16 i).toNat

/-- A signed number in one byte, two's complement. -/
def beS8 (i : Int) : List Byte := [BitVec.ofInt 8 i]

/-- Yes or no, and asserted or deasserted, in one byte: 1 or 0. -/
def yesNo (b : Bool) : Byte := if b then 1 else 0

/-- A result field of n bytes that is absent where no layout is tabled: every byte 0xFF. -/
def absent (n : Nat) : List Byte := List.replicate n 0xFF

/-- Whole seconds of a time in milliseconds, rounded down. -/
def wholeSeconds (ms : Nat) : Nat := ms / 1000

/-! ## Clamps -/

/-- A number brought to the nearer end of a range when outside it. -/
def clampNat (lo hi n : Nat) : Nat := if n < lo then lo else if hi < n then hi else n

/-- An integer brought to the nearer end of a range when outside it. -/
def clampInt (lo hi i : Int) : Int := if i < lo then lo else if hi < i then hi else i

/-! ## Labels, slots and codes -/

/-- A label character: A to Z or 0 to 9 (Conventions, Labels). -/
def labelChar (c : Byte) : Bool :=
  (0x30 ≤ c.toNat && c.toNat ≤ 0x39) || (0x41 ≤ c.toNat && c.toNat ≤ 0x5A)

/-- A well-formed label: every character is A to Z or 0 to 9 (section 1.4). -/
def labelOk (l : Label) : Bool := l.toList.all labelChar

/-- The empty label: 8 spaces (R11, R173). -/
def emptyLabel : Label := Vector.replicate 8 0x20

/-- One string of characters comes before another: the first character that differs decides, and in ASCII the digits come
before the letters (R3). -/
def bytesBefore : List Byte → List Byte → Bool
  | a :: as, b :: bs => if a = b then bytesBefore as bs else decide (a.toNat < b.toNat)
  | _, _ => false

/-- The order of labels (R3). -/
def labelBefore (a b : Label) : Bool := bytesBefore a.toList b.toList

/-- A slot number, absent above 1535 (section 1.4). -/
def slotOf (n : BitVec 16) : Option (Fin 1536) :=
  if h : n.toNat < 1536 then some ⟨n.toNat, h⟩ else none

/-- An optional slot parameter: none when out of range; otherwise the slot, or no slot for 0xFFFF (section 1.4). -/
def slotParam (n : BitVec 16) : Option (Option (Fin 1536)) :=
  if n = 0xFFFF then some none else (slotOf n).map some

/-- A media class, absent above 7. -/
def classOf (b : Byte) : Option (Fin 8) :=
  if h : b.toNat < 8 then some ⟨b.toNat, h⟩ else none

/-- A courier entry number, absent above 15 (R48). -/
def entryOf (b : Byte) : Option (Fin 16) :=
  if h : b.toNat < 16 then some ⟨b.toNat, h⟩ else none

/-- A line number, absent above 11 (R181, R183). -/
def lineOf (b : Byte) : Option (Fin 12) :=
  if h : b.toNat < 12 then some ⟨b.toNat, h⟩ else none

/-- A zone number, absent outside 1..7 (R29). -/
def zoneOf (b : Byte) : Option Zone := Zone.ofNumber b.toNat

/-- A digit of an access code. -/
def isDigit (c : Byte) : Bool := 0x30 ≤ c.toNat && c.toNat ≤ 0x39

/-- The value of an access code's six digits, absent when a character is not a digit (R49, R55). -/
def codeOf (code : AccessCode) : Option Nat :=
  if code.toList.all isDigit then some (code.toList.foldl (fun n c => n * 10 + (c.toNat - 0x30)) 0) else none

/-! ## Modes and other numbered parameters -/

/-- The zone mode of a number, absent above 2 (R35). -/
def modeOf (b : Byte) : Option ZoneMode :=
  match b.toNat with
  | 0 => some .offline
  | 1 => some .online
  | 2 => some .frozen
  | _ => none

/-- The recovery policy of a number, absent above 3 (R140). -/
def policyOf (b : Byte) : Option Policy :=
  match b.toNat with
  | 0 => some .auto
  | 1 => some .freezeAtIsolate
  | 2 => some .freezeAtRecovery
  | 3 => some .onRequest
  | _ => none

/-- The capture mode of a number, absent above 1 (R140). -/
def captureOf (b : Byte) : Option Capture :=
  match b.toNat with
  | 0 => some .all
  | 1 => some .first
  | _ => none

/-- The input function of a function number and a zone byte, absent where SET_LINE_FUNCTION refuses them: the zone is
1..7 for MANUAL_RELEASE and 0 for any other function (R181, R184). -/
def inputFunctionOf (function zone : Byte) : Option InputFunction :=
  match function.toNat, zone.toNat with
  | 0, 0 => some .none
  | 1, 0 => some .hatchDoor
  | 2, 0 => some .abort
  | 3, _ => (zoneOf zone).map .manualRelease
  | 4, 0 => some .bankLow
  | _, _ => Option.none

/-- The output function of a function number and a zone byte, absent where SET_LINE_FUNCTION refuses them (R183, R184). -/
def outputFunctionOf (function zone : Byte) : Option OutputFunction :=
  match function.toNat, zone.toNat with
  | 0, 0 => some .none
  | 1, 0 => some .hatchLock
  | 2, 0 => some .sounder
  | 3, 0 => some .predischarge
  | 4, _ => (zoneOf zone).map .release
  | 5, 0 => some .bankRelease
  | _, _ => Option.none

/-! ## The numbers of states (R173 and the owning chapters) -/

/-- The zone mode's number (R35). -/
def ZoneMode.number : ZoneMode → Nat
  | .offline => 0
  | .online => 1
  | .frozen => 2

/-- The record state's number (R173). -/
def RecordState.number : RecordState → Nat
  | .shelved => 0
  | .staged => 1
  | .out _ _ _ => 2
  | .conditioning _ => 3
  | .ready => 4
  | .unplaced => 5

/-- The item state's number (R173). -/
def ItemState.number : ItemState → Nat
  | .listed => 0
  | .accepted => 1
  | .declined => 2
  | .returned _ _ => 3
  | .conflict => 4
  | .unknown => 5

/-- The number of the manifest's state, FREE included (R173). -/
def manifestStateNumber : Option Manifest → Nat
  | none => 0
  | some m =>
    match m.stage with
    | .building => 1
    | .offered => 2
    | .active => 3
    | .closed _ => 4

/-- The closure cause's number (R173). -/
def Cause.number : Cause → Nat
  | .complete => 1
  | .timeout => 2
  | .cancelled => 3
  | .fire => 4
  | .left => 5

/-- The number of a manifest's closure cause: 0 while it is not CLOSED (R173). -/
def Stage.causeNumber : Stage → Nat
  | .closed c => c.number
  | _ => 0

/-- The manifest direction's number (R173). -/
def Route.directionNumber : Route → Nat
  | .outbound _ => 0
  | .inbound _ _ => 1

/-- The origin link's number: OUTBOUND manifests begin at the facility link, INBOUND ones at the hatch (R66, R173). -/
def Route.originNumber : Route → Nat
  | .outbound _ => 0
  | .inbound _ _ => 1

/-- The climate state's number (R173). -/
def ClimateState.number : ClimateState → Nat
  | .nominal => 0
  | .alert => 1
  | .excursion => 2

/-- The reading status's number (R173). -/
def ReadingStatus.number : ReadingStatus → Nat
  | .fresh => 0
  | .stale => 1
  | .unknown => 2

/-- The loop class's number (R173). -/
def LoopClass.number : LoopClass → Nat
  | .openCircuit => 0
  | .normal => 1
  | .alarm => 2
  | .short => 3

/-- The loop state's number (R173). -/
def LoopState.number : LoopState → Nat
  | .sound => 0
  | .warn => 1
  | .degraded => 2
  | .isolated => 3

/-- The recovery policy's number (R140). -/
def Policy.number : Policy → Nat
  | .auto => 0
  | .freezeAtIsolate => 1
  | .freezeAtRecovery => 2
  | .onRequest => 3

/-- The capture mode's number (R138). -/
def Capture.number : Capture → Nat
  | .all => 0
  | .first => 1

/-- The fire state's number (R145). -/
def FireState.number : FireState → Nat
  | .quiet => 0
  | .prealarm _ => 1
  | .alarmed => 2
  | .countdown _ _ => 3
  | .discharged => 4
  | .starved => 5

/-- The bank state's number (R173). -/
def Bank.number : Bank → Nat
  | .ready => 0
  | .committed _ _ => 1
  | .spent => 2

/-- The hatch link state's number (R173). -/
def HatchState.number : HatchState → Nat
  | .idle => 0
  | .identified _ => 1
  | .lapsed => 2

/-- The code of a status (R170). -/
def Status.number : Status → Nat
  | .ok => 0x00
  | .unknownRequest => 0x01
  | .badParam => 0x02
  | .notFound => 0x03
  | .alreadyExists => 0x04
  | .tableFull => 0x05
  | .slotTaken => 0x06
  | .wrongState => 0x07
  | .zoneFire => 0x08
  | .zoneMode => 0x09
  | .excursion => 0x0A
  | .marked => 0x0B
  | .busy => 0x0C
  | .manifestFull => 0x0D
  | .wrongCourier => 0x0E
  | .codeRefused => 0x0F
  | .courierLocked => 0x10
  | .tooLate => 0x11
  | .order => 0x12
  | .slotsBound => 0x13
  | .stillActive => 0x14
  | .clockInvalid => 0x15
  | .notIdentified => 0x16
  | .storeBusy => 0x17

end Sys2Proof.Machine
end

