-- ==== Sys2Proof/Machine/Ops.lean ====
section
/-! DEFINITION. The named operations over State that the meanings share: the slots and their zones, the custody table, the
custody gate, the marks CT gives, the site clock, and the taking and answering of a request on a link. -/

namespace Sys2Proof.Machine

open Host

/-! ## Zones -/

/-- A zone's mode (R35). -/
def State.mode (s : State) (z : Zone) : ZoneMode := (s.zones.get z).mode

/-- A zone's fire sequence state (R145). -/
def State.fire (s : State) (z : Zone) : FireState := (s.zones.get z).fire

/-- A zone's climate state (R103). -/
def State.climate (s : State) (z : Zone) : ClimateState := (s.ret.climate.get z).state

/-- The live settings of a zone. -/
def State.settings (s : State) (z : Zone) : ZoneSettings := s.live.zones.get z

/-- The state with one zone's live state replaced. -/
def State.setZone (s : State) (z : Zone) (v : ZoneState) : State := { s with zones := s.zones.set z v }

/-- The state with one zone's mode replaced. -/
def State.setMode (s : State) (z : Zone) (m : ZoneMode) : State := s.setZone z { s.zones.get z with mode := m }

/-- The state with one zone's fire sequence state replaced. -/
def State.setFire (s : State) (z : Zone) (f : FireState) : State := s.setZone z { s.zones.get z with fire := f }

/-- The state with one zone's loop replaced. -/
def State.setLoop (s : State) (z : Zone) (l : Loop) : State := s.setZone z { s.zones.get z with loop := l }

/-- The state with one zone's climate account replaced (R105). -/
def State.setAccount (s : State) (z : Zone) (a : ClimateAccount) : State :=
  { s with ret := { s.ret with climate := s.ret.climate.set z a } }

/-- The state with one zone's live settings replaced. -/
def State.setSettings (s : State) (z : Zone) (v : ZoneSettings) : State :=
  { s with live := { s.live with zones := s.live.zones.set z v } }

/-- Every one of the seven zones is OFFLINE (R40). -/
def State.allOffline (s : State) : Bool := Zone.all.all fun z => decide (s.mode z = .offline)

/-- The fire state is COUNTDOWN, held or running. -/
def FireState.isCountdown : FireState → Bool
  | .countdown _ _ => true
  | _ => false

/-- The fire state is QUIET or PREALARM, the two that custody gating lets through (R7). -/
def FireState.isOpen : FireState → Bool
  | .quiet => true
  | .prealarm _ => true
  | _ => false

/-- Some zone is in COUNTDOWN or DISCHARGED (R60, R79, R83). -/
def State.anyCountdownOrDischarged (s : State) : Bool :=
  Zone.all.any fun z => (s.fire z).isCountdown || decide (s.fire z = .discharged)

/-! ## Slots, units and boundaries (R30, R31) -/

/-- The unit of a slot: 64 slots to a unit. -/
def unitOf (slot : Fin 1536) : Nat := slot.val / 64

/-- The zone of a unit: the lowest-numbered storage zone k with the unit at most Bk, B6 being 23 (R31). -/
def Bounds.zoneOfUnit (b : Bounds) (u : Nat) : Zone :=
  if u ≤ b.b1 then .z1
  else if u ≤ b.b2 then .z2
  else if u ≤ b.b3 then .z3
  else if u ≤ b.b4 then .z4
  else if u ≤ b.b5 then .z5
  else .z6

/-- The zone of a slot under the boundaries (R31). -/
def Bounds.zoneOfSlot (b : Bounds) (slot : Fin 1536) : Zone := b.zoneOfUnit (unitOf slot)

/-- The boundary Bk, with B0 taken as 0 and B6 as 23 (R30, R33). -/
def Bounds.get (b : Bounds) : Nat → Nat
  | 0 => 0
  | 1 => b.b1
  | 2 => b.b2
  | 3 => b.b3
  | 4 => b.b4
  | 5 => b.b5
  | _ => 23

/-- The boundaries with Bk replaced. -/
def Bounds.set (b : Bounds) (k v : Nat) : Bounds :=
  match k with
  | 1 => { b with b1 := v }
  | 2 => { b with b2 := v }
  | 3 => { b with b3 := v }
  | 4 => { b with b4 := v }
  | 5 => { b with b5 := v }
  | _ => b

/-- The first and the last unit of a zone, absent for an empty zone and for ZC (R30, R47). Z1 begins at unit 0. -/
def Bounds.unitsOf (b : Bounds) (z : Zone) : Option (Nat × Nat) :=
  match z with
  | .z1 => some (0, b.b1)
  | .zc => none
  | z =>
    let first := b.get (z.number - 1) + 1
    let last := b.get z.number
    if first ≤ last then some (first, last) else none

/-- The number of slots a zone owns: 64 times its number of units (R30). -/
def Bounds.slotsOwned (b : Bounds) (z : Zone) : Nat :=
  match b.unitsOf z with
  | some (first, last) => 64 * (last + 1 - first)
  | none => 0

/-! ## The custody table (R1 to R5) -/

/-- The record with a label, found through the label index (R3). -/
def findRecord (l : Label) (rs : List Record) : Option Record := rs.find? fun r => decide (r.label = l)

/-- The records with a new one at its place in the label order (R3). -/
def insertRecord (r : Record) : List Record → List Record
  | [] => [r]
  | x :: xs => if labelBefore r.label x.label then r :: x :: xs else x :: insertRecord r xs

/-- The records without the one of a label (R15). -/
def removeRecord (l : Label) (rs : List Record) : List Record := rs.filter fun r => !decide (r.label = l)

/-- The records with the one of a label changed. -/
def updateRecord (l : Label) (f : Record → Record) (rs : List Record) : List Record :=
  rs.map fun r => if r.label = l then f r else r

/-- The record of a label. -/
def State.find (s : State) (l : Label) : Option Record := findRecord l s.ret.records

/-- The state with the custody table replaced. -/
def State.setRecords (s : State) (rs : List Record) : State := { s with ret := { s.ret with records := rs } }

/-- The state with the record of a label changed. -/
def State.modifyRecord (s : State) (l : Label) (f : Record → Record) : State :=
  s.setRecords (updateRecord l f s.ret.records)

/-- The label index: the labels in ascending order (R3). -/
def State.labelIndex (s : State) : List Label := s.ret.records.map Record.label

/-- The slot map's entry for a slot: the record whose home slot it is, none when the slot is free (R4). -/
def State.slotHolder (s : State) (slot : Fin 1536) : Option Record :=
  s.ret.records.find? fun r => decide (r.home = some slot)

/-- A slot is bound (R4). -/
def State.slotBound (s : State) (slot : Fin 1536) : Bool := (s.slotHolder slot).isSome

/-- The zone of a slot under the present boundaries (R31). -/
def State.zoneOfSlot (s : State) (slot : Fin 1536) : Zone := s.ret.bounds.zoneOfSlot slot

/-- The record is OUT. -/
def Record.isOut (r : Record) : Bool :=
  match r.state with
  | .out _ _ _ => true
  | _ => false

/-- The record is CONDITIONING. -/
def Record.isConditioning (r : Record) : Bool :=
  match r.state with
  | .conditioning _ => true
  | _ => false

/-- The zone a record is located in: its home slot's when SHELVED, none when OUT, ZC otherwise (R5). -/
def Bounds.location (b : Bounds) (r : Record) : Option Zone :=
  match r.state with
  | .shelved => r.home.map b.zoneOfSlot
  | .out _ _ _ => none
  | _ => some .zc

/-- The zone a record is located in under the present boundaries (R5). -/
def State.location (s : State) (r : Record) : Option Zone := s.ret.bounds.location r

/-! ## Custody gating (R7, R36) -/

/-- The refusal of custody gating for a zone, none when it is custody-open. The mode is tested before the fire state. -/
def State.gate (s : State) (z : Zone) : Option Status :=
  if s.mode z ≠ .online then some .zoneMode
  else if (s.fire z).isOpen then none
  else some .zoneFire

/-- Custody gating at the zone a record leaves and then at the zone it reaches; one zone is tested once (R7). -/
def State.gateMove (s : State) (source target : Zone) : Option Status :=
  match s.gate source with
  | some r => some r
  | none => if source = target then none else s.gate target

/-! ## Marks (R19, R20) -/

/-- A record given EXPOSED when a condition holds. -/
def Record.expose (r : Record) (c : Bool) : Record :=
  { r with marks := { r.marks with exposed := r.marks.exposed || c } }

/-- A record given AGENT when a condition holds. -/
def Record.giveAgent (r : Record) (c : Bool) : Record :=
  { r with marks := { r.marks with agent := r.marks.agent || c } }

/-- EXPOSED given to every record located in a zone (R104). -/
def State.exposeZone (s : State) (z : Zone) : State :=
  s.setRecords (s.ret.records.map fun r => r.expose (decide (s.location r = some z)))

/-- AGENT given to every record located in a zone (R158). -/
def State.agentZone (s : State) (z : Zone) : State :=
  s.setRecords (s.ret.records.map fun r => r.giveAgent (decide (s.location r = some z)))

/-! ## Stage, revert, check out, return and ready (R24 to R26) -/

/-- Stage: a SHELVED record becomes STAGED, located in ZC, and gains EXPOSED if ZC is in EXCURSION (R24). -/
def State.staged (s : State) (r : Record) : Record :=
  match r.state with
  | .shelved => { r with state := .staged }.expose (decide (s.climate .zc = ClimateState.excursion))
  | _ => r

/-- Revert: a STAGED record becomes SHELVED at its home slot, and gains EXPOSED if its home zone is in EXCURSION and AGENT
if its home zone is DISCHARGED (R24). -/
def State.reverted (s : State) (r : Record) : Record :=
  match r.state, r.home with
  | .staged, some h =>
    ({ r with state := .shelved }.expose (decide (s.climate (s.zoneOfSlot h) = ClimateState.excursion))).giveAgent
      (decide (s.fire (s.zoneOfSlot h) = FireState.discharged))
  | .staged, none => { r with state := .shelved }
  | _, _ => r

/-- The movement count after a check-out, saturating (R25). -/
def countUp (n : Nat) : Nat := if n < 65535 then n + 1 else 65535

/-- Check out: a STAGED record becomes OUT with a custody part; its count rises, and it gains WORN when its class limit is
not 0 and the count has reached it (R25). -/
def State.checkedOut (s : State) (courier : Fin 16) (consignment : BitVec 16) (dueHour : Nat) (r : Record) : Record :=
  match r.state with
  | .staged =>
    let count := countUp r.count
    let limit := s.live.classLimits[r.cls]
    { r with
      state := .out courier consignment dueHour
      count := count
      marks := { r.marks with worn := r.marks.worn || (decide (limit ≠ 0) && decide (limit ≤ count)) } }
  | _ => r

/-- Return: an OUT record becomes CONDITIONING with its hold, or READY at a hold of 0. Its custody part and OVERDUE are
removed, and it gains EXPOSED if ZC is in EXCURSION (R26). -/
def State.returned (s : State) (hold : Nat) (r : Record) : Record :=
  match r.state with
  | .out _ _ _ =>
    { r with
      state := if hold = 0 then .ready else .conditioning hold
      marks := { r.marks with overdue := false } }.expose (decide (s.climate .zc = ClimateState.excursion))
  | _ => r

/-- One open minute tick at a record: a CONDITIONING record's hold falls by 1, and at 0 it is made READY (R120, R122). -/
def Record.minute (r : Record) : Record :=
  match r.state with
  | .conditioning h => if h ≤ 1 then { r with state := .ready } else { r with state := .conditioning (h - 1) }
  | _ => r

/-- The record completes its hold at an open minute tick (R122). -/
def Record.completes (r : Record) : Bool :=
  match r.state with
  | .conditioning h => decide (h ≤ 1)
  | _ => false

/-! ## The site clock and the overdue check (R21, R185) -/

/-- The clock hour: the count divided by 3600, rounded down. -/
def State.clockHour (s : State) : Nat := s.ret.clock / 3600

/-- The record gains OVERDUE at a check made at a clock hour: OUT, past due, and not yet marked (R21). -/
def Record.newlyOverdue (hour : Nat) (r : Record) : Bool :=
  match r.state with
  | .out _ _ due => decide (due ≤ hour) && !r.marks.overdue
  | _ => false

/-- The overdue check (R21): the event is raised once if at least one record gains the mark. -/
def State.overdueCheck (s : State) : State :=
  let hour := s.clockHour
  (s.setRecords (s.ret.records.map fun r =>
    if r.newlyOverdue hour then { r with marks := { r.marks with overdue := true } } else r)).raiseIf
    (s.ret.records.any fun r => r.newlyOverdue hour) .overdue

/-! ## Requests on the links (R167, R168) -/

/-- A link's state. -/
def State.link (s : State) : LinkId → Link
  | .facility => s.fl
  | .hatch => s.hl

/-- The state with one link's state replaced. -/
def State.setLink (s : State) (k : LinkId) (l : Link) : State :=
  match k with
  | .facility => { s with fl := l }
  | .hatch => { s with hl := l }

/-- The live divisor of a link (R165). -/
def State.divisor (s : State) : LinkId → BitVec 8
  | .facility => s.live.facilityDivisor
  | .hatch => s.live.hatchDivisor

/-- The fault flag of a link (R167). -/
def faultFlag : LinkId → EventFlag
  | .facility => .linkFault
  | .hatch => .hatchLinkFault

/-- The link is sending a response. -/
def Link.isSending (l : Link) : Bool :=
  match l.request with
  | .sending _ => true
  | _ => false

/-- A frame is in reception. -/
def Link.receiving (l : Link) : Bool := !decide (l.rx = .hunting)

/-- The hatch link takes its new rate at the first moment at which it has no frame in reception and is not sending a
response, but answers at the old rate a request whose frame was in reception when the divisor was set (R165). The facility
link takes its own only when a response has been sent. Log entry 20. -/
def State.settleHatchRate (s : State) : State :=
  if s.hl.receiving || s.hl.isSending || s.hl.rateHeld then s else { s with hl := { s.hl with rate := s.live.hatchDivisor } }

/-- The frame in reception is discarded: the receiver is hunting again and the link's fault flag is raised (R167). -/
def State.discardFrame (s : State) (k : LinkId) : State :=
  let s' := (s.setLink k { s.link k with rx := .hunting, gapLeft := 0 }).raise (faultFlag k)
  match k with
  | .facility => s'
  | .hatch => s'.settleHatchRate

/-- The link begins sending a response; a frame still in reception is discarded at that moment (R167, R168). -/
def State.reply (s : State) (k : LinkId) (r : Response) : State :=
  let s' := s.setLink k { s.link k with request := .sending r }
  if (s.link k).receiving then s'.discardFrame k else s'

/-- What becomes of a request on its link. It is taken when it is the request the link holds TAKEN, or when the link is
WAITING with no frame in reception; the command then stands for the arrival of its whole frame. On a TAKEN link the frame
of another request is an overrun, and a SENDING link receives nothing (R167, R168). Log entry 1. -/
def State.admission (s : State) (k : LinkId) (c : Instr) : Admission :=
  if s.phase ≠ .running then .lost
  else
    match (s.link k).request with
    | .sending _ => .lost
    | .taken c' => if c' = c then .take else if (s.link k).receiving then .lost else .overrun
    | .waiting => if (s.link k).receiving then .lost else .take

/-- What a request's owner block leaves: the state, the status, and the results, which only OK carries (R169, R170). -/
structure Answer where
  state : State
  status : Status
  results : List Byte

/-- The request is accepted. -/
def accepted (s : State) (results : List Byte) : Answer := { state := s, status := .ok, results := results }

/-- The request is refused: no results, and the state is as the rule leaves it (R169). -/
def refused (s : State) (r : Status) : Answer := { state := s, status := r, results := [] }

/-- The response's CODE: the request code plus 0x80, carries dropped (R170). -/
def responseCode (code : Byte) : Byte := code + 0x80

/-- A request reaches its link: its owner takes it whole and the link begins to send the answer (R168, R169). -/
def takeRequest (k : LinkId) (code : Byte) (c : Instr) (owner : State → Answer) (s : State) : Outcome State Fault Refusal :=
  match s.admission k c with
  | .take => .next ((owner s).state.reply k { code := responseCode code, status := (owner s).status, results := (owner s).results })
  | .overrun => .next (s.discardFrame k)
  | .lost => .next s

/-- An event of the running part; while the part is in reset, starting up or without power it does not occur. -/
def whileRunning (f : State → State) (s : State) : Outcome State Fault Refusal :=
  if s.phase = .running then .next (f s) else .next s

/-- An event of the running part that a timer brings: it occurs once the timer has run down. A command of it that finds time
left, its timer having been restarted by what was taken before, changes nothing (R92, R94). Log entry 2. -/
def whenDue (left : State → Nat) (f : State → State) (s : State) : Outcome State Fault Refusal :=
  whileRunning (fun s => if left s = 0 then f s else s) s

/-- A store write is in progress (R187). -/
def State.storeBusy (s : State) : Bool := s.store.writing.isSome

end Sys2Proof.Machine
end

