-- ==== Sys2Proof/Machine/Lines.lean ====
section
/-! DEFINITION. What the lines and the lock show: the hatch lock (R60), the door (R62), the abort and bank low inputs (R153,
R155), the supervision of NONE inputs (R182), and the output functions and pins (R162, R183). Each is worked out from the
state it follows, so it changes in the step that changes that state. Log entry 12. -/

namespace Sys2Proof.Machine

/-! ## Input functions -/

/-- The function of an input line. -/
def State.inputFunction (s : State) (n : Fin 12) : InputFunction := s.live.inputs[n]

/-- The function of an output line. -/
def State.outputFunction (s : State) (n : Fin 12) : OutputFunction := s.live.outputs[n]

/-- The twelve lines of a direction. -/
def allLines : List (Fin 12) := [0, 1, 2, 3, 4, 5, 6, 7, 8, 9, 10, 11]

/-- An input line's debounced level, true for asserted (R181). -/
def State.level (s : State) (n : Fin 12) : Bool := s.levels.getLsbD n.val

/-- Some line with a function has its debounced level asserted. -/
def State.anyAsserted (s : State) (f : InputFunction) : Bool :=
  allLines.any fun n => decide (s.inputFunction n = f) && s.level n

/-- The door is open: some HATCH_DOOR line is asserted (R62). -/
def State.doorOpen (s : State) : Bool := s.anyAsserted .hatchDoor

/-- The abort is asserted: some ABORT line is (R153). -/
def State.abortAsserted (s : State) : Bool := s.anyAsserted .abort

/-- The bank low input is asserted: some BANK_LOW line is (R155). -/
def State.bankLow (s : State) : Bool := s.anyAsserted .bankLow

/-- A line is in mismatch: its function is NONE and its debounced level differs from its expected level (R182). -/
def State.mismatch (s : State) (n : Fin 12) : Bool :=
  decide (s.inputFunction n = .none) && (s.level n != s.live.expected.getLsbD n.val)

/-- Some line of the second state is in mismatch that was not in mismatch in the first (R182). -/
def entersMismatch (s t : State) : Bool := allLines.any fun n => !s.mismatch n && t.mismatch n

/-! ## The door (R62 to R64) -/

/-- An opening that begins now: it is timed from the hatch open limit in force (R64). -/
def State.newOpening (s : State) : Opening := { left := s.live.timers.openLimit * 1000, held := false }

/-- The opening after a change of the inputs or of their functions: one begins when the door goes from closed to open, and
ends when the door is closed (R62). -/
def followDoor (before after : State) : State :=
  if !after.doorOpen then { after with opening := none }
  else if before.doorOpen then after
  else { after with opening := some after.newOpening }

/-! ## The hatch lock (R60) -/

/-- The manifest is ACTIVE. -/
def State.manifestActive (s : State) : Bool :=
  match s.manifest with
  | some m => decide (m.stage = .active)
  | none => false

/-- The manifest is OFFERED. -/
def State.manifestOffered (s : State) : Bool :=
  match s.manifest with
  | some m => decide (m.stage = .offered)
  | none => false

/-- The courier the hatch link is IDENTIFIED with. -/
def State.identified (s : State) : Option (Fin 16) :=
  match s.hatch with
  | .identified c => some c
  | _ => none

/-- The fire and mode conditions of the lock: no zone in COUNTDOWN or DISCHARGED, ZC in QUIET or PREALARM, ZC ONLINE. -/
def State.hatchServable (s : State) : Bool :=
  !s.anyCountdownOrDischarged && (s.fire .zc).isOpen && decide (s.mode .zc = .online)

/-- The hatch lock is asserted, unless every condition of R60 holds. -/
def State.lockAsserted (s : State) : Bool := !(s.identified.isSome && s.manifestActive && s.hatchServable)

/-! ## Output functions and pins (R157, R162, R183) -/

/-- SOUNDER: some zone is in ALARMED, COUNTDOWN, DISCHARGED or STARVED (R162). -/
def State.sounder (s : State) : Bool := Zone.all.any fun z => !(s.fire z).isOpen

/-- PREDISCHARGE: some zone is in COUNTDOWN (R162). -/
def State.predischarge (s : State) : Bool := Zone.all.any fun z => (s.fire z).isCountdown

/-- The zone of the release pulse under way (R157). -/
def State.pulseZone (s : State) : Option Zone :=
  match s.bank with
  | .committed z _ => some z
  | _ => none

/-- An output line is asserted, by its function or, for NONE, by its host level (R183). -/
def State.outputAsserted (s : State) (n : Fin 12) : Bool :=
  match s.outputFunction n with
  | .none => s.live.hostLevels.getLsbD n.val
  | .hatchLock => s.lockAsserted
  | .sounder => s.sounder
  | .predischarge => s.predischarge
  | .release z => decide (s.pulseZone = some z)
  | .bankRelease => s.pulseZone.isSome

/-- An output line's pin is high. A HATCH_LOCK line is low while asserted, every other line high; while the part is not
running every line is low (R183). -/
def State.outputHigh (s : State) (n : Fin 12) : Bool :=
  decide (s.phase = .running) &&
    (if s.outputFunction n = .hatchLock then !s.outputAsserted n else s.outputAsserted n)

/-- A link drives its direction output: FL_DIR or HL_DIR while it is SENDING (R168). -/
def State.drives (s : State) (k : LinkId) : Bool := (s.link k).isSending

/-- A link's bit rate in bits per second, divided down and truncated to a whole number (R165). -/
def bitRate (divisor : BitVec 8) : Nat := Config.crystal / (16 * (divisor.toNat + 1))

end Sys2Proof.Machine
end

