-- ==== Sys2Proof/Machine/Layout.lean ====
section
/-! DEFINITION. The byte layouts of Chapter 9: the record summary (R174), the manifest header and item (R175), the zone report
(R176), the STATUS result (R177), the READ_CONDITIONING result (R178), the courier entry (R52), and the response frame
(R170). Log entry 17. -/

namespace Sys2Proof.Machine

/-! ## Record summary (R9, R174): 25 bytes -/

/-- The zone number of an optional zone, 0 when absent. -/
def zoneNumber : Option Zone → Nat
  | some z => z.number
  | none => 0

/-- The record summary of a record (R174). -/
def State.summary (s : State) (r : Record) : List Byte :=
  r.label.toList ++ [byteOf r.cls.val, byteOf r.state.number]
    ++ (match r.home with
        | some h => be16 h.val
        | none => be16 0xFFFF)
    ++ [byteOf (zoneNumber (s.location r)), byteOf (zoneNumber (r.home.map s.zoneOfSlot)), byteOf r.marks.number]
    ++ be16 r.count
    ++ (match r.state with
        | .out courier consignment due => [byteOf courier.val] ++ be16 consignment.toNat ++ be24 due
        | _ => [0] ++ be16 0 ++ be24 0)
    ++ (match r.state with
        | .conditioning hold => be16 hold
        | _ => be16 0)

/-! ## Manifest header and item (R89, R90, R175) -/

/-- Whole seconds left of a timer, 0 when it is stopped. -/
def secondsLeft : Option Nat → Nat
  | some ms => wholeSeconds ms
  | none => 0

/-- The handover time of the manifest header: 0 unless the manifest is OFFERED or ACTIVE (R89). -/
def State.headerHandover (s : State) (m : Manifest) : Nat :=
  if m.stage = .offered ∨ m.stage = .active then secondsLeft s.handoverTimer else 0

/-- The release time of the manifest header: 0 unless the manifest is CLOSED (R89). -/
def State.headerRelease (s : State) (m : Manifest) : Nat :=
  if m.stage.causeNumber = 0 then 0 else secondsLeft s.releaseTimer

/-- The due hours and the case values of the manifest header (R175). -/
def Route.headerFields : Route → List Byte
  | .outbound dueHours => be16 dueHours ++ [0] ++ be16 0 ++ be16 0
  | .inbound caseT caseH =>
    be16 0 ++ [byteOf ((if caseT.isSome then 1 else 0) + (if caseH.isSome then 2 else 0))]
      ++ beS16 (caseT.getD 0) ++ beS16 (caseH.getD 0)

/-- The manifest header: 19 bytes (R175). -/
def State.header (s : State) (m : Manifest) : List Byte :=
  [byteOf (manifestStateNumber (some m)), byteOf m.route.directionNumber, byteOf m.route.originNumber, byteOf m.courier.val]
    ++ be16 m.consignment.toNat ++ m.route.headerFields
    ++ [byteOf m.items.length, byteOf m.stage.causeNumber]
    ++ be16 (s.headerHandover m) ++ be16 (s.headerRelease m)

/-- A manifest item: 12 bytes (R175). -/
def Item.bytes (i : Item) : List Byte :=
  i.label.toList ++ [byteOf i.state.number]
    ++ (match i.state with
        | .returned hold other => be16 hold ++ [yesNo other]
        | _ => be16 0 ++ [0])

/-- A manifest item as VIEW shows it: its other-courier byte is sent as 0 (R90, R175). -/
def Item.viewBytes (i : Item) : List Byte :=
  match i.state with
  | .returned hold _ => ({ i with state := .returned hold false } : Item).bytes
  | _ => i.bytes

/-- The READ_MANIFEST result: the header, then the items in list order (R89). -/
def State.manifestBytes (s : State) (m : Manifest) : List Byte := s.header m ++ m.items.flatMap Item.bytes

/-- The VIEW result: the direction, the consignment, the number of items and the items (R90). -/
def Manifest.viewBytes (m : Manifest) : List Byte :=
  [byteOf m.route.directionNumber] ++ be16 m.consignment.toNat ++ [byteOf m.items.length] ++ m.items.flatMap Item.viewBytes

/-- The manifest direction where no layout is tabled: absent while FREE (R55, R65). -/
def directionByte : Option Manifest → List Byte
  | some m => [byteOf m.route.directionNumber]
  | none => absent 1

/-! ## Courier entry (R52) -/

/-- The entry as READ_COURIER reports it: number, enrolled, badge, attempts, locked, identified. -/
def State.courierBytes (s : State) (e : Fin 16) : List Byte :=
  let identified := yesNo (decide (s.identified = some e))
  match s.ret.couriers[e] with
  | some c => [byteOf e.val, yesNo true] ++ be24 c.badge.toNat ++ [byteOf c.attempts, yesNo c.locked, identified]
  | none => [byteOf e.val, yesNo false] ++ be24 0 ++ [0, yesNo false, identified]

/-! ## Zone report (R47, R108, R143, R163, R176): 77 bytes -/

/-- The number of bound slots a zone owns (R47). -/
def State.slotsBound (s : State) (z : Zone) : Nat :=
  (s.ret.records.filter fun r => decide (r.home.map s.zoneOfSlot = some z)).length

/-- The zone-control part of the zone report. -/
def State.zonePart (s : State) (z : Zone) : List Byte :=
  [byteOf z.number, byteOf (s.mode z).number, byteOf (s.settings z).startMode.number]
    ++ (match s.ret.bounds.unitsOf z with
        | some (first, last) => [byteOf first, byteOf last]
        | none => [0xFF, 0xFF])
    ++ be16 (s.ret.bounds.slotsOwned z) ++ be16 (s.slotsBound z)

/-- The climate part of the zone report. -/
def State.climatePart (s : State) (z : Zone) : List Byte :=
  let x := (s.zones.get z).sensor
  let a := s.ret.climate.get z
  let c := (s.settings z).climate
  let reading := x.reading.getD { t := 0, rh := 0 }
  let raw := x.raw.getD { t := 0, h := 0 }
  [byteOf x.status.number, byteOf ((if x.reading.isSome then 1 else 0) + (if x.raw.isSome then 2 else 0))]
    ++ beS16 reading.t ++ beS16 reading.rh ++ be16 raw.t.toNat ++ be16 raw.h.toNat
    ++ [byteOf x.staleCount] ++ be16 x.weight ++ be24 a.dose ++ [byteOf a.state.number]
    ++ [byteOf c.period, byteOf c.staleLimit] ++ beS16 c.rhTarget ++ beS8 c.rhBand ++ beS16 c.tTarget ++ beS8 c.tBand
    ++ [byteOf c.recovery] ++ be24 c.alert ++ be24 c.exposure ++ beS8 (s.settings z).trims.t ++ beS8 (s.settings z).trims.h

/-- The three fault flags in one byte of the zone report (R176). -/
def FaultFlags.number (f : FaultFlags) : Nat :=
  (if f.openSeen then 1 else 0) + (if f.shortSeen then 2 else 0) + (if f.alarmSeen then 4 else 0)

/-- The loop part of the zone report. -/
def State.loopPart (s : State) (z : Zone) : List Byte :=
  let l := (s.zones.get z).loop
  let c := (s.settings z).loop
  (match l.latest with
    | some (value, cls) => be16 value ++ [byteOf cls.number]
    | none => be16 0xFFFF ++ [0xFF])
    ++ [byteOf l.state.number, byteOf l.trouble, byteOf l.run, yesNo l.ready, byteOf l.flags.number]
    ++ be16 c.openMax ++ be16 c.normalMax ++ be16 c.alarmMax ++ [byteOf c.policy.number, byteOf c.capture.number]

/-- The fire state's timers in the zone report: window remaining, countdown remaining, countdown held (R163). -/
def FireState.timerBytes : FireState → List Byte
  | .prealarm left => [byteOf (wholeSeconds left), 0, 0]
  | .countdown left held => [0, byteOf (wholeSeconds left), yesNo held]
  | _ => [0, 0, 0]

/-- The alarm time in the zone report (R176). -/
def alarmTimeBytes : Option AlarmTime → List Byte
  | some a => [if a.valid then 2 else 1] ++ be32 a.value
  | none => [0] ++ be32 0

/-- The bank's part of a zone's report: committed to this zone, and the pulse remaining. -/
def Bank.zoneBytes (b : Bank) (z : Zone) : List Byte :=
  match b with
  | .committed z' left => if z' = z then [1, byteOf (wholeSeconds left)] else [0, 0]
  | _ => [0, 0]

/-- The fire part of the zone report. -/
def State.firePart (s : State) (z : Zone) : List Byte :=
  let r := (s.settings z).release
  [byteOf (s.fire z).number] ++ (s.fire z).timerBytes ++ alarmTimeBytes (s.zones.get z).alarmTime
    ++ [yesNo r.enabled] ++ beS16 r.heatAbs ++ beS8 r.heatRise
    ++ [byteOf s.live.release.window, byteOf s.live.release.countdown, byteOf s.live.release.pulse]
    ++ s.bank.zoneBytes z

/-- The zone report (R176). -/
def State.zoneReport (s : State) (z : Zone) : List Byte :=
  s.zonePart z ++ s.climatePart z ++ s.loopPart z ++ s.firePart z

/-! ## STATUS (R177, R180): 32 bytes -/

/-- The STATUS result. -/
def State.statusBytes (s : State) : List Byte :=
  be24 s.flags.toNat ++ be24 s.live.enables.toNat
    ++ [byteOf (highestPending s.flags), byteOf (manifestStateNumber s.manifest), yesNo s.storeBusy,
        yesNo s.ret.clockValid, byteOf s.bank.number]
    ++ Zone.all.flatMap fun z => [byteOf (s.mode z).number, byteOf (s.fire z).number, byteOf (s.climate z).number]

/-! ## READ_CONDITIONING (R126, R178): 11 bytes -/

/-- ZC's reading status is FRESH, the first condition of the conditioning gate (R121). -/
def State.chamberFresh (s : State) : Bool := decide ((s.zones.get .zc).sensor.status = .fresh)

/-- The conditioning gate is open (R121). -/
def State.gateOpen (s : State) : Bool :=
  s.chamberFresh && decide (s.climate .zc ≠ .excursion) && decide (s.fire .zc = .quiet)

/-- The smallest of two optional holds. -/
def minHold : Option Nat → Option Nat → Option Nat
  | some a, some b => some (min a b)
  | some a, none => some a
  | none, h => h

/-- The hold remaining of a CONDITIONING record. -/
def Record.hold (r : Record) : Option Nat :=
  match r.state with
  | .conditioning h => some h
  | _ => none

/-- The smallest hold remaining among the CONDITIONING records, absent when there are none (R126). -/
def smallestHold (rs : List Record) : Option Nat := rs.foldl (fun h r => minHold h r.hold) none

/-- The READ_CONDITIONING result. -/
def State.conditioningBytes (s : State) : List Byte :=
  let c := s.live.conditioning
  [byteOf c.kT, byteOf c.kH, byteOf c.base, yesNo s.gateOpen,
    byteOf ((if s.chamberFresh then 1 else 0) + (if s.climate .zc ≠ .excursion then 2 else 0)
      + (if s.fire .zc = .quiet then 4 else 0))]
    ++ be16 (s.ret.records.filter Record.isConditioning).length
    ++ be16 (s.ret.records.filter fun r => decide (r.state = .ready)).length
    ++ be16 ((smallestHold s.ret.records).getD 0)

/-! ## Response frame (R170) -/

/-- The byte that brings the 8-bit sum of a list of bytes to 0 (R166, R170). -/
def checkByte (bs : List Byte) : Byte := -(bs.foldl (fun a b => a + b) 0)

/-- The bytes of a response: START, LENGTH, CODE, STATUS, results, CHECK (R170). -/
def Response.frame (r : Response) : List Byte :=
  let counted := be16 (2 + r.results.length) ++ [r.code, byteOf r.status.number] ++ r.results
  [0xA5] ++ counted ++ [checkByte counted]

end Sys2Proof.Machine
end

