-- ==== Sys2Proof/Machine/Sequencer.lean ====
section
/-! DEFINITION. The steps that blocks take for one another: the closing of the manifest (R71, R72), the handover timer (R54),
the fire sequence's entries (R146 to R152, R156, R158), the loop policy's freeze (R45), and the abort (R153). -/

namespace Sys2Proof.Machine

/-! ## The handover timer and the manifest (R54, R71) -/

/-- The handover timer starts or restarts from its full length (R54). -/
def State.restartHandover (s : State) : State := { s with handoverTimer := some (s.live.timers.handover * 1000) }

/-- The handover timer stops. -/
def State.stopHandover (s : State) : State := { s with handoverTimer := none }

/-- The item of a label on a list. -/
def findItem (l : Label) (items : List Item) : Option Item := items.find? fun i => decide (i.label = l)

/-- What the closing of an outbound manifest does to a record: checked out when its item is ACCEPTED and the cause is
COMPLETE, reverted otherwise, untouched when no item names it (R71, R72). -/
def State.closedRecord (s : State) (m : Manifest) (dueHours : Nat) (cause : Cause) (r : Record) : Record :=
  match findItem r.label m.items with
  | none => r
  | some i =>
    if i.state = .accepted ∧ cause = .complete then s.checkedOut m.courier m.consignment (s.clockHour + dueHours) r
    else s.reverted r

/-- The records after the closing of a manifest: those of an INBOUND manifest stand (R71). -/
def State.closedRecords (s : State) (m : Manifest) (cause : Cause) : List Record :=
  match m.route with
  | .outbound dueHours => s.ret.records.map (s.closedRecord m dueHours cause)
  | .inbound _ _ => s.ret.records

/-- The hatch link state after a closure (R71, R58). -/
def HatchState.afterClosure (h : HatchState) (cause : Cause) : HatchState :=
  match cause, h with
  | .complete, h => h
  | .cancelled, h => h
  | .left, _ => .idle
  | .timeout, .identified _ => .lapsed
  | .timeout, _ => .idle
  | .fire, .identified _ => .idle
  | .fire, h => h

/-- The handover timer after a closure (R71, R54, R73). A CANCELLED closure restarts it if the manifest was ACTIVE, and leaves
it timing the identification of a courier who is on the link. Log entry 9. -/
def State.handoverAfterClosure (s : State) (stage : Stage) (cause : Cause) : Option Nat :=
  let full := some (s.live.timers.handover * 1000)
  match cause with
  | .complete => full
  | .cancelled =>
    if s.identified.isNone then none
    else if stage = .active then full
    else s.handoverTimer
  | _ => none

/-- The manifest closes with a cause, in one step: its records leave STAGED, MANIFEST_CLOSED is raised and the release
timer starts (R71). -/
def State.closeWith (s : State) (m : Manifest) (cause : Cause) : State :=
  ({ (s.setRecords (s.closedRecords m cause)) with
    manifest := some { m with stage := .closed cause }
    hatch := s.hatch.afterClosure cause
    handoverTimer := s.handoverAfterClosure m.stage cause
    releaseTimer := some (s.live.timers.release * 1000) }).raise .manifestClosed

/-- The manifest is BUILDING, OFFERED or ACTIVE. -/
def Stage.isOpen : Stage → Bool
  | .closed _ => false
  | _ => true

/-- Fire abandonment: an open manifest closes with FIRE, and an IDENTIFIED link becomes IDLE whatever the manifest (R58,
R88). -/
def State.abandonForFire (s : State) : State :=
  match s.manifest with
  | some m =>
    if m.stage.isOpen then s.closeWith m .fire
    else if s.identified.isSome then { s with hatch := .idle, handoverTimer := none } else s
  | none => if s.identified.isSome then { s with hatch := .idle, handoverTimer := none } else s

/-! ## The fire sequence (R146 to R158) -/

/-- An entry into COUNTDOWN: the full countdown, held while the abort is asserted; COUNTDOWN; the abandonment of the
manifest (R152). -/
def State.enterCountdown (s : State) (z : Zone) : State :=
  ((s.setFire z (.countdown (s.live.release.countdown * 1000) s.abortAsserted)).raise .countdown).abandonForFire

/-- A second knock: an ALARMED zone enters COUNTDOWN if its release is enabled and it is not OFFLINE. Otherwise, and in
every other fire state, the knock is ignored and not kept (R148, R149). -/
def State.secondKnock (s : State) (z : Zone) : State :=
  if s.fire z = .alarmed ∧ (s.settings z).release.enabled = true ∧ s.mode z ≠ .offline then s.enterCountdown z else s

/-- An ALARM sample handed to RS: QUIET goes to PREALARM with its window and alarm time, PREALARM to ALARMED, and every
other state is unchanged (R146 to R148). -/
def State.alarmSample (s : State) (z : Zone) : State :=
  match s.fire z with
  | .quiet =>
    (s.setZone z { s.zones.get z with
      fire := .prealarm (s.live.release.window * 1000)
      alarmTime := some { value := s.ret.clock, valid := s.ret.clockValid } }).raise .zonePrealarm
  | .prealarm _ => (s.setFire z .alarmed).raise .zoneAlarm
  | _ => s

/-- The bank is available: READY with the bank low input deasserted (R155). -/
def State.bankAvailable (s : State) : Bool := decide (s.bank = .ready) && !s.bankLow

/-- RS has SS write a bank state: at once, or as the pending bank write while a store write is in progress (R156, R188). -/
def State.writeBank (s : State) (b : BankRecord) : State :=
  if s.storeBusy then { s with ret := { s.ret with pendingBank := some b } }
  else { s with store := { s.store with bank := some b } }

/-- A zone is DISCHARGED: the bank is committed to it, SPENT is written, the pulse starts and every record located in the
zone gains AGENT (R156 to R158). -/
def State.discharge (s : State) (z : Zone) : State :=
  ((({ s with bank := .committed z (s.live.release.pulse * 1000) }.writeBank .spent).setFire z .discharged).agentZone z).raise
    .discharge

/-- A zone is STARVED: the bank is unchanged and nothing is marked (R156). -/
def State.starve (s : State) (z : Zone) : State := (s.setFire z .starved).raise .bankStarved

/-- The fire state after the abort input has become asserted or deasserted: every countdown is held at its full length, or
restarts from it and runs (R153). -/
def FireState.afterAbort (asserted : Bool) (full : Nat) : FireState → FireState
  | .countdown _ _ => .countdown full asserted
  | f => f

/-- The abort input changes at every zone in COUNTDOWN (R153). -/
def State.abortChanged (s : State) (asserted : Bool) : State :=
  { s with
    zones := PerZone.tabulate fun z =>
      { s.zones.get z with fire := (s.fire z).afterAbort asserted (s.live.release.countdown * 1000) } }

/-! ## Freezing by loop policy (R45) -/

/-- A freeze: ONLINE becomes FROZEN, and FROZEN and OFFLINE stay (R45). -/
def ZoneMode.frozenBy : ZoneMode → ZoneMode
  | .online => .frozen
  | m => m

/-- A loop's policy freezes its zone (R45). -/
def State.freeze (s : State) (z : Zone) : State := s.setMode z (s.mode z).frozenBy

end Sys2Proof.Machine
end

