-- ==== Sys2Proof/Machine/Climate.lean ====
section
/-! DEFINITION. The climate unit: a zone's sample, its conversion, dose and climate state, the heat knock, and the requests
on climate settings (R94 to R112). -/

namespace Sys2Proof.Machine

open Host

/-! ## A sample (R94 to R98) -/

/-- A raw count that an open or shorted sensor gives: an end of the converter's range (R95). -/
def rawFault (c : BitVec 12) : Bool := decide (c.toNat = 0) || decide (c.toNat = 4095)

/-- Humidity in tenths of a percent, trimmed and clamped (R96). -/
def convertH (raw : BitVec 12) (trim : Int) : Int := clampInt 0 1000 (((raw.toNat * 1000 / 4095 : Nat) : Int) + trim)

/-- Temperature in tenths of a degree, trimmed and clamped (R96). -/
def convertT (raw : BitVec 12) (trim : Int) : Int :=
  clampInt (-400) 1250 (((raw.toNat * 1650 / 4095 : Nat) : Int) - 400 + trim)

/-- How far a quantity lies from its target beyond the band allowed, 0 within it (R100). -/
def excess (value target band : Int) : Nat := (((value - target).natAbs : Int) - band).toNat

/-- The weight of a reading: the humidity excess and twice the temperature excess (R100). -/
def weightOf (c : ClimateSettings) (r : Reading) : Nat :=
  excess r.rh c.rhTarget c.rhBand + 2 * excess r.t c.tTarget c.tBand

/-- The dose's ceiling (R101). -/
def doseCeiling : Nat := 16777215

/-- The dose after a good sample of a weight: it rises by w × P, or with no weight falls by recovery × P (R101). -/
def nextDose (c : ClimateSettings) (dose weight : Nat) : Nat :=
  if weight = 0 then dose - c.recovery * c.period else min doseCeiling (dose + weight * c.period)

/-- The climate state after an update of the dose (R103). -/
def nextClimate (c : ClimateSettings) (dose : Nat) : ClimateState → ClimateState
  | .excursion => if dose = 0 then .nominal else .excursion
  | _ => if c.exposure ≤ dose then .excursion else if c.alert ≤ dose then .alert else .nominal

/-- The accounting of a good sample: the dose, then the climate state; an entry into ALERT or EXCURSION raises its event,
and an entry into EXCURSION marks every record located in the zone (R101, R103, R104). -/
def State.account (s : State) (z : Zone) (weight : Nat) : State :=
  let c := (s.settings z).climate
  let a := s.ret.climate.get z
  let dose := nextDose c a.dose weight
  let next := nextClimate c dose a.state
  let t := s.setAccount z { dose := dose, state := next }
  if a.state ≠ .excursion ∧ next = .excursion then (t.exposeZone z).raise .climateExcursion
  else t.raiseIf (decide (a.state = .nominal) && decide (next = .alert)) .climateAlert

/-- The reading status after a sensor fault: STALE while a reading is held and the count is below the limit (R98). -/
def faultStatus (held : Bool) (count limit : Nat) : ReadingStatus :=
  if held && decide (count < limit) then .stale else .unknown

/-- A sensor fault: the reading is held, the stale count rises, and SENSOR_STALE is raised when it is brought to exactly
the stale limit (R98). -/
def State.sensorFault (s : State) (z : Zone) : State :=
  let v := s.zones.get z
  let limit := (s.settings z).climate.staleLimit
  let count := min 255 (v.sensor.staleCount + 1)
  (s.setZone z { v with
    sensor := { v.sensor with
      lastGood := false
      staleCount := count
      status := faultStatus v.sensor.reading.isSome count limit } }).raiseIf
    (decide (count = limit)) .sensorStale

/-- The heat tests of a good sample: absolute heat, or a rise above the reading it replaces when the sample before it was
good (R111). -/
def heatTest (c : ReleaseSettings) (previous : Option Reading) (t : Int) : Bool :=
  decide (c.heatAbs ≤ t) ||
    match previous with
    | some p => decide (p.t + c.heatRise ≤ t)
    | none => false

/-- A good sample: the reading, the weight, the accounting outside OFFLINE, and the heat knock of an ALARMED zone, in that
order (R97, R101, R103, R111). -/
def State.goodSample (s : State) (z : Zone) (counts : RawCounts) : State :=
  let v := s.zones.get z
  let c := s.settings z
  let reading : Reading := { t := convertT counts.t c.trims.t, rh := convertH counts.h c.trims.h }
  let weight := weightOf c.climate reading
  let previous := if v.sensor.lastGood then v.sensor.reading else none
  let s1 := s.setZone z { v with
    sensor := { v.sensor with reading := some reading, status := .fresh, staleCount := 0, lastGood := true, weight := weight } }
  let s2 := if v.mode = .offline then s1 else s1.account z weight
  if v.fire = .alarmed ∧ heatTest c.release previous reading.t = true then s2.secondKnock z else s2

/-- A sample of a zone's channel: its counts are the latest raw counts, its timer starts again, and it is good or a sensor
fault (R94, R95). -/
def State.sampleClimate (s : State) (z : Zone) (counts : RawCounts) : State :=
  let v := s.zones.get z
  let s1 := s.setZone z { v with
    sensor := { v.sensor with raw := some counts }
    sampleLeft := (s.settings z).climate.period * 1000 }
  if rawFault counts.t || rawFault counts.h then s1.sensorFault z else s1.goodSample z counts

/-- CLIMATE_SAMPLE (R94): at the end of the zone's sample timer. -/
def execClimateSample (z : Zone) (counts : RawCounts) (s : State) : Outcome State Fault Refusal :=
  whenDue (fun s => (s.zones.get z).sampleLeft) (fun s => s.sampleClimate z counts) s

/-! ## Requests (R107, R109, R110) -/

/-- CL's answer to RESET_DOSE (R107). -/
def ownResetDose (zone : Byte) (s : State) : Answer :=
  match zoneOf zone with
  | none => refused s .badParam
  | some z =>
    if s.mode z ≠ .offline then refused s .zoneMode
    else
      accepted (s.setAccount z { dose := 0, state := .nominal })
        ([byteOf z.number] ++ be24 0 ++ [byteOf ClimateState.nominal.number])

/-- RESET_DOSE (R107). -/
def execResetDose (zone : Byte) (s : State) : Outcome State Fault Refusal :=
  takeRequest .facility 0x34 (.resetDose zone) (ownResetDose zone) s

/-- The climate settings of a SET_CLIMATE, each value outside its range clamped to the nearer end (R109). -/
def clampedClimate (period staleLimit : Byte) (rhTarget : BitVec 16) (rhBand : Byte) (tTarget : BitVec 16)
    (tBand recovery : Byte) (alert exposure : BitVec 24) : ClimateSettings :=
  { period := clampNat 1 60 period.toNat
    staleLimit := clampNat 1 20 staleLimit.toNat
    rhTarget := clampInt 0 1000 rhTarget.toNat
    rhBand := clampInt 0 200 rhBand.toNat
    tTarget := clampInt (-100) 400 tTarget.toInt
    tBand := clampInt 0 100 tBand.toNat
    recovery := clampNat 0 255 recovery.toNat
    alert := clampNat 1 16777214 alert.toNat
    exposure := clampNat 2 16777215 exposure.toNat }

/-- The climate settings in the order SET_CLIMATE names them. -/
def ClimateSettings.bytes (c : ClimateSettings) : List Byte :=
  [byteOf c.period, byteOf c.staleLimit] ++ beS16 c.rhTarget ++ beS8 c.rhBand ++ beS16 c.tTarget ++ beS8 c.tBand
    ++ [byteOf c.recovery] ++ be24 c.alert ++ be24 c.exposure

/-- CL's answer to SET_CLIMATE (R109): the settings are set together and the zone's sample timer restarts (R94). -/
def ownSetClimate (zone : Byte) (c : ClimateSettings) (s : State) : Answer :=
  match zoneOf zone with
  | none => refused s .badParam
  | some z =>
    if c.exposure ≤ c.alert then refused s .badParam
    else if s.mode z ≠ .offline then refused s .zoneMode
    else if s.storeBusy then refused s .storeBusy
    else
      accepted
        ((s.setSettings z { s.settings z with climate := c }).setZone z
          { s.zones.get z with sampleLeft := c.period * 1000 })
        c.bytes

/-- SET_CLIMATE (R109). -/
def execSetClimate (zone period staleLimit : Byte) (rhTarget : BitVec 16) (rhBand : Byte) (tTarget : BitVec 16)
    (tBand recovery : Byte) (alert exposure : BitVec 24) (s : State) : Outcome State Fault Refusal :=
  takeRequest .facility 0x32 (.setClimate zone period staleLimit rhTarget rhBand tTarget tBand recovery alert exposure)
    (ownSetClimate zone (clampedClimate period staleLimit rhTarget rhBand tTarget tBand recovery alert exposure)) s

/-- The trims of a SET_TRIM, signed and clamped (R110). -/
def clampedTrims (trimT trimH : Byte) : Trims :=
  { t := clampInt (-50) 50 trimT.toInt, h := clampInt (-50) 50 trimH.toInt }

/-- CL's answer to SET_TRIM (R110): the trims are set and "last sample good" becomes no. -/
def ownSetTrim (zone trimT trimH : Byte) (s : State) : Answer :=
  match zoneOf zone with
  | none => refused s .badParam
  | some z =>
    if s.mode z ≠ .offline then refused s .zoneMode
    else if s.storeBusy then refused s .storeBusy
    else
      let v := s.zones.get z
      let x := clampedTrims trimT trimH
      accepted
        ((s.setSettings z { s.settings z with trims := x }).setZone z { v with sensor := { v.sensor with lastGood := false } })
        (beS8 x.t ++ beS8 x.h)

/-- SET_TRIM (R110). -/
def execSetTrim (zone trimT trimH : Byte) (s : State) : Outcome State Fault Refusal :=
  takeRequest .facility 0x35 (.setTrim zone trimT trimH) (ownSetTrim zone trimT trimH) s

end Sys2Proof.Machine
end

