-- ==== Sys2Proof/Machine/Conditioning.lean ====
section
/-! DEFINITION. The conditioning unit: the coefficients, the minute tick's countdown and the report (R116, R119 to R126). -/

namespace Sys2Proof.Machine

open Host

/-- CN's answer to SET_CONDITIONING (R119). -/
def ownSetConditioning (kT kH base : Byte) (s : State) : Answer :=
  if s.storeBusy then refused s .storeBusy
  else
    let c : Coefficients :=
      { kT := clampNat 0 60 kT.toNat, kH := clampNat 0 30 kH.toNat, base := clampNat 0 120 base.toNat }
    accepted { s with live := { s.live with conditioning := c } } [byteOf c.kT, byteOf c.kH, byteOf c.base]

/-- SET_CONDITIONING (R119). -/
def execSetConditioning (kT kH base : Byte) (s : State) : Outcome State Fault Refusal :=
  takeRequest .facility 0x37 (.setConditioning kT kH base) (ownSetConditioning kT kH base) s

/-- CN's answer to READ_CONDITIONING (R126). -/
def ownReadConditioning (s : State) : Answer := accepted s s.conditioningBytes

/-- READ_CONDITIONING (R126). -/
def execReadConditioning (s : State) : Outcome State Fault Refusal :=
  takeRequest .facility 0x38 .readConditioning ownReadConditioning s

/-- A minute tick at CN: with the gate open every hold falls by 1, a record whose hold reaches 0 is made READY, and
HOLD_DONE is raised once if any does; with the gate closed the tick is lost (R120, R122). -/
def State.minuteTick (s : State) : State :=
  if s.gateOpen then
    (s.setRecords (s.ret.records.map Record.minute)).raiseIf (s.ret.records.any Record.completes) .holdDone
  else s

/-- ELAPSED_MINUTE_TICK (R120, R185), when the minute has passed. The next tick is 60 seconds of running time away. -/
def execElapsedMinuteTick (s : State) : Outcome State Fault Refusal :=
  whenDue State.minuteLeft (fun s => { s.minuteTick with minuteLeft := 60000 }) s

end Sys2Proof.Machine
end

