-- ==== Sys2Proof/Machine/Couriers.lean ====
section
/-! DEFINITION. The facility's requests on the courier table (R49 to R52). -/

namespace Sys2Proof.Machine

open Host

/-- The courier entries in the order of their numbers. -/
def allEntries : List (Fin 16) := [0, 1, 2, 3, 4, 5, 6, 7, 8, 9, 10, 11, 12, 13, 14, 15]

/-- The entry that is enrolled with a badge number (R48). -/
def State.badgeHolder (s : State) (badge : BitVec 24) : Option (Fin 16) :=
  allEntries.find? fun e =>
    match s.ret.couriers[e] with
    | some c => decide (c.badge = badge)
    | none => false

/-- Another enrolled entry holds the badge number (R49). -/
def State.badgeTaken (s : State) (e : Fin 16) (badge : BitVec 24) : Bool :=
  allEntries.any fun e' =>
    !decide (e' = e) &&
      match s.ret.couriers[e'] with
      | some c => decide (c.badge = badge)
      | none => false

/-- The courier is named by the manifest while it is not FREE, or identified on the hatch link (R49, R50). -/
def State.courierBusy (s : State) (e : Fin 16) : Bool :=
  (match s.manifest with
    | some m => decide (m.courier = e)
    | none => false) || decide (s.identified = some e)

/-- The state with one courier entry written whole (R48). -/
def State.setCourier (s : State) (e : Fin 16) (c : Option Courier) : State :=
  { s with ret := { s.ret with couriers := s.ret.couriers.set e c } }

/-- CR's answer to ENROL_COURIER (R49). -/
def ownEnrolCourier (entry : Byte) (badge : BitVec 24) (code : AccessCode) (s : State) : Answer :=
  match entryOf entry, codeOf code with
  | some e, some c =>
    if badge = 0 then refused s .badParam
    else if s.badgeTaken e badge then refused s .alreadyExists
    else if s.courierBusy e then refused s .busy
    else
      let t := s.setCourier e (some { badge := badge, code := c, attempts := 0, locked := false })
      accepted t (t.courierBytes e)
  | _, _ => refused s .badParam

/-- ENROL_COURIER (R49). -/
def execEnrolCourier (entry : Byte) (badge : BitVec 24) (code : AccessCode) (s : State) : Outcome State Fault Refusal :=
  takeRequest .facility 0x28 (.enrolCourier entry badge code) (ownEnrolCourier entry badge code) s

/-- CR's answer to REVOKE_COURIER (R50). -/
def ownRevokeCourier (entry : Byte) (s : State) : Answer :=
  match entryOf entry with
  | none => refused s .badParam
  | some e =>
    if s.courierBusy e then refused s .busy
    else
      let t := s.setCourier e none
      accepted t (t.courierBytes e)

/-- REVOKE_COURIER (R50). -/
def execRevokeCourier (entry : Byte) (s : State) : Outcome State Fault Refusal :=
  takeRequest .facility 0x29 (.revokeCourier entry) (ownRevokeCourier entry) s

/-- An entry with its failed attempts and its lock cleared (R51, R55). -/
def Courier.cleared (c : Courier) : Courier := { c with attempts := 0, locked := false }

/-- CR's answer to UNLOCK_COURIER (R51). -/
def ownUnlockCourier (entry : Byte) (s : State) : Answer :=
  match entryOf entry with
  | none => refused s .badParam
  | some e =>
    match s.ret.couriers[e] with
    | none => refused s .notFound
    | some c =>
      let t := s.setCourier e (some c.cleared)
      accepted t (t.courierBytes e)

/-- UNLOCK_COURIER (R51). -/
def execUnlockCourier (entry : Byte) (s : State) : Outcome State Fault Refusal :=
  takeRequest .facility 0x2A (.unlockCourier entry) (ownUnlockCourier entry) s

/-- CR's answer to READ_COURIER (R52). -/
def ownReadCourier (entry : Byte) (s : State) : Answer :=
  match entryOf entry with
  | none => refused s .badParam
  | some e => accepted s (s.courierBytes e)

/-- READ_COURIER (R52). -/
def execReadCourier (entry : Byte) (s : State) : Outcome State Fault Refusal :=
  takeRequest .facility 0x2B (.readCourier entry) (ownReadCourier entry) s

end Sys2Proof.Machine
end

