-- ==== Sys2Proof/Machine/Custody.lean ====
section
/-! DEFINITION. The custody table's requests (R8 to R18) and the class limits (R22): for each, what its owner block answers
and its meaning. -/

namespace Sys2Proof.Machine

open Host

/-- The record ENROLL makes: with a slot SHELVED there, without one UNPLACED and given EXPOSED when ZC is in EXCURSION
(R8). -/
def State.newRecord (s : State) (label : Label) (cls : Fin 8) (slot : Option (Fin 1536)) : Record :=
  match slot with
  | some h => { label := label, cls := cls, state := .shelved, home := some h, marks := Marks.none, count := 0 }
  | none =>
    { label := label, cls := cls, state := .unplaced, home := none,
      marks := { Marks.none with exposed := decide (s.climate .zc = ClimateState.excursion) }, count := 0 }

/-- ENROLL's tests 4 to 6 (R8), none when they pass: the slot is bound, the gate of the zone, the zone's EXCURSION. -/
def State.enrollRefusal (s : State) (slot : Option (Fin 1536)) : Option Status :=
  match slot with
  | none => s.gate .zc
  | some h =>
    if s.slotBound h then some .slotTaken
    else
      match s.gate (s.zoneOfSlot h) with
      | some r => some r
      | none => if s.climate (s.zoneOfSlot h) = ClimateState.excursion then some .excursion else none

/-- CT's answer to ENROLL (R8). -/
def ownEnroll (label : Label) (cls : Byte) (slot : BitVec 16) (s : State) : Answer :=
  match classOf cls, slotParam slot with
  | some c, some sl =>
    if labelOk label = false then refused s .badParam
    else if (s.find label).isSome then refused s .alreadyExists
    else if Config.tableSize ≤ s.ret.records.length then refused s .tableFull
    else
      match s.enrollRefusal sl with
      | some r => refused s r
      | none =>
        let r := s.newRecord label c sl
        let t := s.setRecords (insertRecord r s.ret.records)
        accepted t (t.summary r)
  | _, _ => refused s .badParam

/-- ENROLL (R8). -/
def execEnroll (label : Label) (cls : Byte) (slot : BitVec 16) (s : State) : Outcome State Fault Refusal :=
  takeRequest .facility 0x10 (.enroll label cls slot) (ownEnroll label cls slot) s

/-- CT's answer to a request that names a record by label: BAD_PARAM for a malformed label, NOT_FOUND for one not in the
index (R3). -/
def withRecord (label : Label) (s : State) (f : Record → Answer) : Answer :=
  if labelOk label = false then refused s .badParam
  else
    match s.find label with
    | none => refused s .notFound
    | some r => f r

/-- A change of the record of a label is made, and the answer carries its summary afterwards (section 1.4). -/
def changeRecord (label : Label) (f : Record → Record) (s : State) (r : Record) : Answer :=
  let t := s.modifyRecord label f
  accepted t (t.summary (f r))

/-- CT's answer to LOOKUP (R9). -/
def ownLookup (label : Label) (s : State) : Answer := withRecord label s fun r => accepted s (s.summary r)

/-- LOOKUP (R9). -/
def execLookup (label : Label) (s : State) : Outcome State Fault Refusal :=
  takeRequest .facility 0x11 (.lookup label) (ownLookup label) s

/-- CT's answer to SLOT_QUERY (R10): the slot, its zone, whether it is free, and the label and state of a bound record. -/
def ownSlotQuery (slot : BitVec 16) (s : State) : Answer :=
  match slotOf slot with
  | none => refused s .badParam
  | some h =>
    let owner := be16 h.val ++ [byteOf (s.zoneOfSlot h).number]
    match s.slotHolder h with
    | none => accepted s (owner ++ [yesNo true] ++ absent 8 ++ absent 1)
    | some r => accepted s (owner ++ [yesNo false] ++ r.label.toList ++ [byteOf r.state.number])

/-- SLOT_QUERY (R10). -/
def execSlotQuery (slot : BitVec 16) (s : State) : Outcome State Fault Refusal :=
  takeRequest .facility 0x12 (.slotQuery slot) (ownSlotQuery slot) s

/-- The record whose label is the smallest greater than the one given, in a table in label order; the empty label comes
before every label (R11). -/
def nextRecord (label : Label) (rs : List Record) : Option Record :=
  rs.find? fun r => decide (label = emptyLabel) || labelBefore label r.label

/-- CT's answer to NEXT_LABEL (R11). -/
def ownNextLabel (label : Label) (s : State) : Answer :=
  if labelOk label = false ∧ label ≠ emptyLabel then refused s .badParam
  else
    match nextRecord label s.ret.records with
    | none => refused s .notFound
    | some r => accepted s (s.summary r)

/-- NEXT_LABEL (R11). -/
def execNextLabel (label : Label) (s : State) : Outcome State Fault Refusal :=
  takeRequest .facility 0x13 (.nextLabel label) (ownNextLabel label) s

/-- PLACE's tests 5 to 7 (R12), none when they pass: the target slot taken, the gates of ZC and of the target zone, the
target zone's EXCURSION. -/
def State.placeRefusal (s : State) (r : Record) (target : Fin 1536) : Option Status :=
  if r.home ≠ some target ∧ s.slotBound target = true then some .slotTaken
  else
    match s.gateMove .zc (s.zoneOfSlot target) with
    | some x => some x
    | none => if s.climate (s.zoneOfSlot target) = ClimateState.excursion then some .excursion else none

/-- A record shelved at a slot (R12, R13). -/
def Record.shelveAt (r : Record) (slot : Fin 1536) : Record := { r with state := .shelved, home := some slot }

/-- CT's answer to PLACE (R12). -/
def ownPlace (label : Label) (slot : BitVec 16) (s : State) : Answer :=
  match slotParam slot with
  | none => refused s .badParam
  | some given =>
    withRecord label s fun r =>
      if r.state = .unplaced ∨ r.state = .ready then
        match given.orElse fun _ => r.home with
        | none => refused s .badParam
        | some target =>
          match s.placeRefusal r target with
          | some x => refused s x
          | none => changeRecord label (fun r => r.shelveAt target) s r
      else refused s .wrongState

/-- PLACE (R12). -/
def execPlace (label : Label) (slot : BitVec 16) (s : State) : Outcome State Fault Refusal :=
  takeRequest .facility 0x14 (.place label slot) (ownPlace label slot) s

/-- RELOCATE's tests 4 to 6 (R13), none when they pass. The source zone is the present home slot's. -/
def State.relocateRefusal (s : State) (source target : Fin 1536) : Option Status :=
  if s.slotBound target then some .slotTaken
  else
    match s.gateMove (s.zoneOfSlot source) (s.zoneOfSlot target) with
    | some x => some x
    | none => if s.climate (s.zoneOfSlot target) = ClimateState.excursion then some .excursion else none

/-- CT's answer to RELOCATE (R13). A SHELVED record always has a home slot (R2). -/
def ownRelocate (label : Label) (slot : BitVec 16) (s : State) : Answer :=
  match slotOf slot with
  | none => refused s .badParam
  | some target =>
    withRecord label s fun r =>
      match r.state, r.home with
      | .shelved, some source =>
        match s.relocateRefusal source target with
        | some x => refused s x
        | none => changeRecord label (fun r => r.shelveAt target) s r
      | _, _ => refused s .wrongState

/-- RELOCATE (R13). -/
def execRelocate (label : Label) (slot : BitVec 16) (s : State) : Outcome State Fault Refusal :=
  takeRequest .facility 0x15 (.relocate label slot) (ownRelocate label slot) s

/-- UNBIND's tests 3 and 4 (R14), none when they pass: an OUT record is not gated, a CONDITIONING or READY one is gated at
ZC. -/
def State.unbindRefusal (s : State) (r : Record) : Option Status :=
  match r.state with
  | .out _ _ _ => none
  | .conditioning _ => s.gate .zc
  | .ready => s.gate .zc
  | _ => some .wrongState

/-- CT's answer to UNBIND (R14). -/
def ownUnbind (label : Label) (s : State) : Answer :=
  withRecord label s fun r =>
    match s.unbindRefusal r with
    | some x => refused s x
    | none => changeRecord label (fun r => { r with home := none }) s r

/-- UNBIND (R14). -/
def execUnbind (label : Label) (s : State) : Outcome State Fault Refusal :=
  takeRequest .facility 0x16 (.unbind label) (ownUnbind label) s

/-- RETIRE's tests 3 and 4 (R15), none when they pass: the gate of the zone where the record is located. -/
def State.retireRefusal (s : State) (r : Record) : Option Status :=
  match r.state, s.location r with
  | .shelved, some z => s.gate z
  | .unplaced, _ => s.gate .zc
  | .ready, _ => s.gate .zc
  | _, _ => some .wrongState

/-- CT's answer to RETIRE (R15): the summary is of the record as it stood just before removal. -/
def ownRetire (label : Label) (s : State) : Answer :=
  withRecord label s fun r =>
    match s.retireRefusal r with
    | some x => refused s x
    | none => accepted (s.setRecords (removeRecord label s.ret.records)) (s.summary r)

/-- RETIRE (R15). -/
def execRetire (label : Label) (s : State) : Outcome State Fault Refusal :=
  takeRequest .facility 0x17 (.retire label) (ownRetire label) s

/-- CLEAR_MARK's tests 3 and 4 (R16), none when they pass. An OUT record is located in no zone and passes both. -/
def State.clearMarkRefusal (s : State) (r : Record) (mark : Nat) : Option Status :=
  match s.location r with
  | none => none
  | some z =>
    if mark = 0 ∧ s.climate z = ClimateState.excursion then some .excursion
    else if mark = 1 ∧ s.fire z ≠ .quiet then some .zoneFire
    else none

/-- CT's answer to CLEAR_MARK (R16). -/
def ownClearMark (label : Label) (mark : Byte) (s : State) : Answer :=
  if 3 < mark.toNat then refused s .badParam
  else
    withRecord label s fun r =>
      match s.clearMarkRefusal r mark.toNat with
      | some x => refused s x
      | none => changeRecord label (fun r => { r with marks := r.marks.without mark.toNat }) s r

/-- CLEAR_MARK (R16). -/
def execClearMark (label : Label) (mark : Byte) (s : State) : Outcome State Fault Refusal :=
  takeRequest .facility 0x18 (.clearMark label mark) (ownClearMark label mark) s

/-- CT's answer to SET_CLASS (R17). -/
def ownSetClass (label : Label) (cls : Byte) (s : State) : Answer :=
  match classOf cls with
  | none => refused s .badParam
  | some c => withRecord label s fun r => changeRecord label (fun r => { r with cls := c }) s r

/-- SET_CLASS (R17). -/
def execSetClass (label : Label) (cls : Byte) (s : State) : Outcome State Fault Refusal :=
  takeRequest .facility 0x19 (.setClass label cls) (ownSetClass label cls) s

/-- An OUT record with a new due hour and OVERDUE removed (R18). -/
def Record.extended (due : Nat) (r : Record) : Record :=
  match r.state with
  | .out courier consignment _ =>
    { r with state := .out courier consignment due, marks := { r.marks with overdue := false } }
  | _ => r

/-- CT's answer to EXTEND_DUE (R18). -/
def ownExtendDue (label : Label) (hours : BitVec 16) (s : State) : Answer :=
  if hours.toNat < 1 ∨ 8760 < hours.toNat then refused s .badParam
  else
    withRecord label s fun r =>
      if r.isOut = false then refused s .wrongState
      else if s.ret.clockValid = false then refused s .clockInvalid
      else changeRecord label (Record.extended (s.clockHour + hours.toNat)) s r

/-- EXTEND_DUE (R18). -/
def execExtendDue (label : Label) (hours : BitVec 16) (s : State) : Outcome State Fault Refusal :=
  takeRequest .facility 0x1A (.extendDue label hours) (ownExtendDue label hours) s

/-- CT's answer to SET_CLASS_LIMIT (R22). -/
def ownSetClassLimit (cls : Byte) (limit : BitVec 16) (s : State) : Answer :=
  match classOf cls with
  | none => refused s .badParam
  | some c =>
    if s.storeBusy then refused s .storeBusy
    else
      accepted { s with live := { s.live with classLimits := s.live.classLimits.set c limit.toNat } }
        ([byteOf c.val] ++ be16 limit.toNat)

/-- SET_CLASS_LIMIT (R22). -/
def execSetClassLimit (cls : Byte) (limit : BitVec 16) (s : State) : Outcome State Fault Refusal :=
  takeRequest .facility 0x59 (.setClassLimit cls limit) (ownSetClassLimit cls limit) s

end Sys2Proof.Machine
end

