-- ==== Sys2Proof/Machine/Fire.lean ====
section
/-! DEFINITION. The release sequencer's requests and the expiries of its timers (R147, R151, R154 to R160, R164). -/

namespace Sys2Proof.Machine

open Host

/-! ## Requests -/

/-- The zone number and the fire state reached, the results of the three fire requests. -/
def State.fireBytes (s : State) (z : Zone) : List Byte := [byteOf z.number, byteOf (s.fire z).number]

/-- RS's answer to ABORT_RELEASE (R154). -/
def ownAbortRelease (zone : Byte) (s : State) : Answer :=
  match zoneOf zone with
  | none => refused s .badParam
  | some z =>
    if (s.fire z).isCountdown = false then refused s .wrongState
    else
      let t := s.setFire z .alarmed
      accepted t (t.fireBytes z)

/-- ABORT_RELEASE (R154). -/
def execAbortRelease (zone : Byte) (s : State) : Outcome State Fault Refusal :=
  takeRequest .facility 0x43 (.abortRelease zone) (ownAbortRelease zone) s

/-- RS's answer to MANUAL_RELEASE (R151): a second knock, taken up or ignored. -/
def ownManualRelease (zone : Byte) (s : State) : Answer :=
  match zoneOf zone with
  | none => refused s .badParam
  | some z =>
    if s.fire z ≠ .alarmed then refused s .wrongState
    else
      let t := s.secondKnock z
      accepted t (t.fireBytes z)

/-- MANUAL_RELEASE (R151). -/
def execManualRelease (zone : Byte) (s : State) : Outcome State Fault Refusal :=
  takeRequest .facility 0x44 (.manualRelease zone) (ownManualRelease zone) s

/-- RESET_ALARM's tests 2 and 3 (R159), none when they pass: the fire state, then the zone's loop. -/
def State.resetAlarmRefusal (s : State) (z : Zone) : Option Status :=
  let l := (s.zones.get z).loop
  if s.fire z = .quiet ∨ (s.fire z).isCountdown = true ∨ (s.fire z = .discharged ∧ s.pulseZone = some z) then
    some .wrongState
  else if l.state ≠ .isolated ∧ l.latest.map Prod.snd ≠ some .normal then some .stillActive
  else none

/-- RS's answer to RESET_ALARM (R159). -/
def ownResetAlarm (zone : Byte) (s : State) : Answer :=
  match zoneOf zone with
  | none => refused s .badParam
  | some z =>
    match s.resetAlarmRefusal z with
    | some x => refused s x
    | none =>
      let t := s.setFire z .quiet
      accepted t (t.fireBytes z)

/-- RESET_ALARM (R159). -/
def execResetAlarm (zone : Byte) (s : State) : Outcome State Fault Refusal :=
  takeRequest .facility 0x45 (.resetAlarm zone) (ownResetAlarm zone) s

/-- RS's answer to BANK_RELOADED (R160). -/
def ownBankReloaded (s : State) : Answer :=
  if s.bank ≠ .spent then refused s .wrongState
  else if s.storeBusy then refused s .storeBusy
  else accepted ({ s with bank := .ready }.writeBank .ready) [byteOf Bank.ready.number]

/-- BANK_RELOADED (R160). -/
def execBankReloaded (s : State) : Outcome State Fault Refusal :=
  takeRequest .facility 0x46 .bankReloaded ownBankReloaded s

/-- The global release settings of a SET_RELEASE, clamped (R164). -/
def clampedTimes (b0 b1 b2 : Byte) : ReleaseTimes :=
  { window := clampNat 10 120 b0.toNat, countdown := clampNat 10 60 b1.toNat, pulse := clampNat 1 10 b2.toNat }

/-- A zone's release settings of a SET_RELEASE, clamped: heat_abs is the signed field of two bytes (R164, R173). -/
def clampedRelease (enabled : Bool) (b1 b2 b3 : Byte) : ReleaseSettings :=
  { enabled := enabled
    heatAbs := clampInt 200 1000 (b1 ++ b2).toInt
    heatRise := clampInt 5 200 b3.toNat }

/-- RS's answer to SET_RELEASE (R164). With scope 0 the fourth byte is not read (R173). -/
def ownSetRelease (scope b0 b1 b2 b3 : Byte) (s : State) : Answer :=
  if scope = 0 then
    if s.allOffline = false then refused s .zoneMode
    else if s.storeBusy then refused s .storeBusy
    else
      let x := clampedTimes b0 b1 b2
      accepted { s with live := { s.live with release := x } } [byteOf x.window, byteOf x.countdown, byteOf x.pulse]
  else
    match zoneOf scope with
    | none => refused s .badParam
    | some z =>
      if 1 < b0.toNat then refused s .badParam
      else if s.mode z ≠ .offline then refused s .zoneMode
      else if s.storeBusy then refused s .storeBusy
      else
        let x := clampedRelease (decide (b0 = 1)) b1 b2 b3
        accepted (s.setSettings z { s.settings z with release := x }) ([yesNo x.enabled] ++ beS16 x.heatAbs ++ beS8 x.heatRise)

/-- SET_RELEASE (R164). -/
def execSetRelease (scope b0 b1 b2 b3 : Byte) (s : State) : Outcome State Fault Refusal :=
  takeRequest .facility 0x47 (.setRelease scope b0 b1 b2 b3) (ownSetRelease scope b0 b1 b2 b3) s

/-! ## Expiries (R147, R156, R157) -/

/-- A zone's verification window expires: PREALARM returns to QUIET (R147). A window with time left does not. -/
def State.windowExpiry (s : State) (z : Zone) : State := if s.fire z = .prealarm 0 then s.setFire z .quiet else s

/-- VERIFICATION_WINDOW_EXPIRY (R147). -/
def execVerificationWindowExpiry (z : Zone) (s : State) : Outcome State Fault Refusal :=
  whileRunning (fun s => s.windowExpiry z) s

/-- A zone's running countdown expires: the zone takes the bank and is DISCHARGED, or is STARVED. A held countdown cannot
expire, nor one that the abort's release has restarted (R153, R156). -/
def State.countdownExpiry (s : State) (z : Zone) : State :=
  match s.fire z with
  | .countdown 0 false => if s.bankAvailable then s.discharge z else s.starve z
  | _ => s

/-- COUNTDOWN_EXPIRY (R156). -/
def execCountdownExpiry (z : Zone) (s : State) : Outcome State Fault Refusal :=
  whileRunning (fun s => s.countdownExpiry z) s

/-- The release pulse has run its length: the bank is SPENT and no zone is committed (R157). -/
def State.pulseEnd (s : State) : State :=
  match s.bank with
  | .committed _ 0 => { s with bank := .spent }
  | _ => s

/-- RELEASE_PULSE_END (R157). -/
def execReleasePulseEnd (s : State) : Outcome State Fault Refusal := whileRunning State.pulseEnd s

end Sys2Proof.Machine
end

