-- ==== Sys2Proof/WellFormed.lean ====
section
/-! DEFINITION. Which commands are well formed. A command's operands have the widths of R173 by their types; what is left
to check is what a frame can hold (R166) and that a command of the row UNKNOWN_REQUEST is one (R169). -/

namespace Sys2Proof

/-- The request codes of each link (R169's table). Every other code belongs to neither. -/
def LinkId.codes : LinkId → List Nat
  | .facility =>
    [0x10, 0x11, 0x12, 0x13, 0x14, 0x15, 0x16, 0x17, 0x18, 0x19, 0x1A,
     0x20, 0x21, 0x22, 0x23, 0x24, 0x25, 0x26,
     0x28, 0x29, 0x2A, 0x2B,
     0x30, 0x31, 0x32, 0x33, 0x34, 0x35, 0x36, 0x37, 0x38,
     0x40, 0x41, 0x42, 0x43, 0x44, 0x45, 0x46, 0x47,
     0x50, 0x51, 0x52, 0x53, 0x54, 0x55, 0x56, 0x57, 0x58, 0x59, 0x5A, 0x5B, 0x5F]
  | .hatch => [0x60, 0x61, 0x62, 0x63, 0x64, 0x65, 0x66, 0x67, 0x68]

/-- Whether a request code belongs to a link (R169). -/
def LinkId.hasCode (k : LinkId) (code : Byte) : Bool := k.codes.contains code.toNat

/-- The most parameter bytes a frame holds: LENGTH is at most 200 and counts CODE (R166). -/
def maxParams : Nat := 199

/-- A command is well formed: an UNKNOWN_REQUEST's code does not belong to its link, and its parameters fit in a frame. -/
def Instr.wellFormed : Instr → Bool
  | .unknownRequest link code params => !link.hasCode code && decide (params.length ≤ maxParams)
  | _ => true

end Sys2Proof
end

