-- ==== Sys2Proof/Machine/Frames.lean ====
section
/-! DEFINITION. The links' receivers and request states: the reading of a request frame's parameters (R169, R173), the
characters of a frame (R166, R167), and the events of the links (R165 to R169). -/

namespace Sys2Proof.Machine

open Host

/-! ## The parameters of a request (R169, R173) -/

/-- What is left of a parameter list after one field has been read from it. -/
abbrev Parsed (α : Type) := Option (α × List Byte)

/-- One byte. -/
def readByte : List Byte → Parsed Byte
  | a :: rest => some (a, rest)
  | _ => none

/-- Two bytes, most significant first. -/
def read16 : List Byte → Parsed (BitVec 16)
  | a :: b :: rest => some (a ++ b, rest)
  | _ => none

/-- Three bytes, most significant first. -/
def read24 : List Byte → Parsed (BitVec 24)
  | a :: b :: c :: rest => some (a ++ b ++ c, rest)
  | _ => none

/-- Four bytes, most significant first. -/
def read32 : List Byte → Parsed (BitVec 32)
  | a :: b :: c :: d :: rest => some (a ++ b ++ c ++ d, rest)
  | _ => none

/-- A label of 8 bytes. -/
def readLabel : List Byte → Parsed Label
  | a :: b :: c :: d :: e :: f :: g :: h :: rest => some (#v[a, b, c, d, e, f, g, h], rest)
  | _ => none

/-- An access code of 6 bytes. -/
def readCode : List Byte → Parsed AccessCode
  | a :: b :: c :: d :: e :: f :: rest => some (#v[a, b, c, d, e, f], rest)
  | _ => none

/-- What a yes-or-no or level byte says: 0 no, 1 yes, and a free value for any other (R173). Log entry 7. -/
def boolOfByte (b : Byte) : Bool := if b = 0 then false else if b = 1 then true else Config.yesNoOfByte b

/-- A yes-or-no or level byte. -/
def readBool (ps : List Byte) : Parsed Bool := (readByte ps).map fun (b, rest) => (boolOfByte b, rest)

/-- A request made of one field and nothing after it. -/
def oneField {α : Type} (p : List Byte → Parsed α) (f : α → Instr) (ps : List Byte) : Option Instr :=
  match p ps with
  | some (a, []) => some (f a)
  | _ => none

/-- A request made of two fields and nothing after them. -/
def twoFields {α β : Type} (p : List Byte → Parsed α) (q : List Byte → Parsed β) (f : α → β → Instr) (ps : List Byte) :
    Option Instr := do
  let (a, ps) ← p ps
  oneField q (f a) ps

/-- A request made of three fields and nothing after them. -/
def threeFields {α β γ : Type} (p : List Byte → Parsed α) (q : List Byte → Parsed β) (r : List Byte → Parsed γ)
    (f : α → β → γ → Instr) (ps : List Byte) : Option Instr := do
  let (a, ps) ← p ps
  twoFields q r (f a) ps

/-- A request without parameters. -/
def noField (i : Instr) (ps : List Byte) : Option Instr := if ps.isEmpty then some i else none

/-- OPEN_MANIFEST's parameters. -/
def readOpenManifest (ps : List Byte) : Option Instr := do
  let (direction, ps) ← readByte ps
  threeFields readByte read16 read16 (.openManifest direction) ps

/-- SET_CLIMATE's parameters. -/
def readSetClimate (ps : List Byte) : Option Instr := do
  let (zone, ps) ← readByte ps
  let (period, ps) ← readByte ps
  let (staleLimit, ps) ← readByte ps
  let (rhTarget, ps) ← read16 ps
  let (rhBand, ps) ← readByte ps
  let (tTarget, ps) ← read16 ps
  let (tBand, ps) ← readByte ps
  threeFields readByte read24 read24 (.setClimate zone period staleLimit rhTarget rhBand tTarget tBand) ps

/-- SET_LOOP's parameters. -/
def readSetLoop (ps : List Byte) : Option Instr := do
  let (loop, ps) ← readByte ps
  let (openMax, ps) ← read16 ps
  let (normalMax, ps) ← read16 ps
  threeFields read16 readByte readByte (.setLoop loop openMax normalMax) ps

/-- CLEAR_LOOP_FLAGS's parameters. -/
def readClearLoopFlags (ps : List Byte) : Option Instr := do
  let (loop, ps) ← readByte ps
  threeFields readBool readBool readBool (.clearLoopFlags loop) ps

/-- SET_RELEASE's parameters: the scope and then four bytes (R173). -/
def readSetRelease (ps : List Byte) : Option Instr := do
  let (scope, ps) ← readByte ps
  let (b0, ps) ← readByte ps
  threeFields readByte readByte readByte (.setRelease scope b0) ps

/-- SET_LINE_FUNCTION's parameters. -/
def readSetLineFunction (ps : List Byte) : Option Instr := do
  let (direction, ps) ← readByte ps
  threeFields readByte readByte readByte (.setLineFunction direction) ps

/-- A case value whose presence bit is clear is not read and is absent (R173). -/
def presentIf (presence : Byte) (bit : Nat) (v : BitVec 16) : Option (BitVec 16) :=
  if presence.getLsbD bit then some v else none

/-- DECLARE's parameters: the consignment, a presence byte and both value fields (R173). Log entry 18. -/
def readDeclare (ps : List Byte) : Option Instr := do
  let (consignment, ps) ← read16 ps
  threeFields readByte read16 read16
    (fun presence t h => .declare consignment (presentIf presence 0 t) (presentIf presence 1 h)) ps

/-- The request of a code and its parameter bytes: none when the parameters are not exactly as long as the request's, or
the code names no request (R169, R173). -/
def requestOf (code : Byte) (ps : List Byte) : Option Instr :=
  match code.toNat with
  | 0x10 => threeFields readLabel readByte read16 .enroll ps
  | 0x11 => oneField readLabel .lookup ps
  | 0x12 => oneField read16 .slotQuery ps
  | 0x13 => oneField readLabel .nextLabel ps
  | 0x14 => twoFields readLabel read16 .place ps
  | 0x15 => twoFields readLabel read16 .relocate ps
  | 0x16 => oneField readLabel .unbind ps
  | 0x17 => oneField readLabel .retire ps
  | 0x18 => twoFields readLabel readByte .clearMark ps
  | 0x19 => twoFields readLabel readByte .setClass ps
  | 0x1A => twoFields readLabel read16 .extendDue ps
  | 0x20 => readOpenManifest ps
  | 0x21 => oneField readLabel .addItem ps
  | 0x22 => oneField readLabel .dropItem ps
  | 0x23 => noField .offerManifest ps
  | 0x24 => noField .cancelManifest ps
  | 0x25 => noField .readManifest ps
  | 0x26 => noField .releaseManifest ps
  | 0x28 => threeFields readByte read24 readCode .enrolCourier ps
  | 0x29 => oneField readByte .revokeCourier ps
  | 0x2A => oneField readByte .unlockCourier ps
  | 0x2B => oneField readByte .readCourier ps
  | 0x30 => twoFields readByte readByte .setZoneMode ps
  | 0x31 => twoFields readByte readByte .setBoundary ps
  | 0x32 => readSetClimate ps
  | 0x33 => oneField readByte .readZone ps
  | 0x34 => oneField readByte .resetDose ps
  | 0x35 => threeFields readByte readByte readByte .setTrim ps
  | 0x36 => twoFields readByte readByte .setStartMode ps
  | 0x37 => threeFields readByte readByte readByte .setConditioning ps
  | 0x38 => noField .readConditioning ps
  | 0x40 => readSetLoop ps
  | 0x41 => oneField readByte .loopReturn ps
  | 0x42 => readClearLoopFlags ps
  | 0x43 => oneField readByte .abortRelease ps
  | 0x44 => oneField readByte .manualRelease ps
  | 0x45 => oneField readByte .resetAlarm ps
  | 0x46 => noField .bankReloaded ps
  | 0x47 => readSetRelease ps
  | 0x50 => noField .status ps
  | 0x51 => oneField read24 .clearEvents ps
  | 0x52 => oneField read24 .setEventEnable ps
  | 0x53 => oneField read32 .setClock ps
  | 0x54 => noField .readClock ps
  | 0x55 => twoFields readByte readBool .setLine ps
  | 0x56 => oneField read16 .setExpect ps
  | 0x57 => readSetLineFunction ps
  | 0x58 => threeFields read16 read16 read16 .setTimers ps
  | 0x59 => twoFields readByte read16 .setClassLimit ps
  | 0x5A => noField .storeSettings ps
  | 0x5B => twoFields readByte readByte .setLinkRate ps
  | 0x5F => noField .identifyPart ps
  | 0x60 => twoFields read24 readCode .identify ps
  | 0x61 => readDeclare ps
  | 0x62 => oneField readLabel .deposit ps
  | 0x63 => oneField readLabel .accept ps
  | 0x64 => oneField readLabel .decline ps
  | 0x65 => noField .view ps
  | 0x66 => noField .finish ps
  | 0x67 => noField .leave ps
  | 0x68 => noField .hatchStatus ps
  | _ => none

/-! ## A frame completes (R167 to R169) -/

/-- The link itself answers a frame that reaches no owner block. -/
def State.linkAnswers (s : State) (k : LinkId) (code : Byte) (r : Status) : State :=
  s.reply k { code := responseCode code, status := r, results := [] }

/-- A well-checked frame completes on a link that has no request unanswered. An unknown code is answered UNKNOWN_REQUEST
and a wrong parameter length BAD_PARAM; any other request is with its owner block, and the link is TAKEN (R168, R169). A frame
that came at another rate than the live divisor's was in reception when that divisor was set, and keeps its rate until it is
answered (R165). -/
def State.frameArrives (s : State) (k : LinkId) (code : Byte) (ps : List Byte) : State :=
  if k.hasCode code = false then s.linkAnswers k code .unknownRequest
  else
    match requestOf code ps with
    | none => s.linkAnswers k code .badParam
    | some i => s.setLink k { s.link k with request := .taken i, rateHeld := decide ((s.link k).rate ≠ s.divisor k) }

/-- A well-checked frame completes: an overrun is discarded while the link's previous request is TAKEN (R167, R168). -/
def State.frameCompletes (s : State) (k : LinkId) (code : Byte) (ps : List Byte) : State :=
  match (s.link k).request with
  | .waiting => s.frameArrives k code ps
  | .taken _ => s.discardFrame k
  | .sending _ => s

/-- UNKNOWN_REQUEST (R169): a well-checked frame completes on a link with no frame in reception. A frame whose code does
belong to the link, which is no command of this row, is treated as R169 treats every frame. Log entry 21. -/
def execUnknownRequest (k : LinkId) (code : Byte) (ps : List Byte) (s : State) : Outcome State Fault Refusal :=
  whileRunning (fun s => if (s.link k).receiving then s else s.frameCompletes k code ps) s

/-! ## Characters (R166, R167) -/

/-- The START character (R166). -/
def startChar : Byte := 0xA5

/-- The milliseconds allowed between the characters of a frame (R167). -/
def gapLimit : Nat := 50

/-- The receiver of a link with the gap timer started afresh. -/
def State.setReceiver (s : State) (k : LinkId) (rx : Receiver) : State :=
  s.setLink k { s.link k with rx := rx, gapLeft := gapLimit }

/-- The frame in reception has been taken whole: the receiver is hunting. -/
def State.endReception (s : State) (k : LinkId) : State := s.setLink k { s.link k with rx := .hunting, gapLeft := 0 }

/-- The 8-bit sum of LENGTH and the characters after it (R166). -/
def frameSum (length : Nat) (taken : List Byte) : Byte := taken.foldl (fun a b => a + b) (byteOf length)

/-- The frame of a LENGTH and the characters after it is complete: its sum is tested, and a right one is taken (R167). -/
def State.checkFrame (s : State) (k : LinkId) (length : Nat) (taken : List Byte) : State :=
  if frameSum length taken ≠ 0 then s.discardFrame k
  else
    match taken.dropLast with
    | [] => s.discardFrame k
    | code :: ps =>
      match (s.link k).request with
      | .taken _ => s.discardFrame k
      | _ => (s.endReception k).frameCompletes k code ps

/-- A character with a right stop bit, at a receiver (R167). -/
def State.takeCharacter (s : State) (k : LinkId) (c : Byte) : State :=
  match (s.link k).rx with
  | .hunting => if c = startChar then s.setReceiver k .awaitLength else s
  | .awaitLength =>
    if c.toNat = 0 ∨ 200 < c.toNat then s.discardFrame k else s.setReceiver k (.body c.toNat [])
  | .body length taken =>
    if (taken ++ [c]).length = length + 1 then s.checkFrame k length (taken ++ [c])
    else s.setReceiver k (.body length (taken ++ [c]))

/-- A character arrives on a link. While the link is SENDING it is lost; a wrong stop bit discards the frame in reception,
and while hunting the character alone (R167, R168). -/
def State.character (s : State) (k : LinkId) (c : Byte) (stopOk : Bool) : State :=
  if (s.link k).isSending then s
  else if stopOk then s.takeCharacter k c
  else if (s.link k).receiving then s.discardFrame k
  else s

/-- CHARACTER_RECEIVED (R167). -/
def execCharacterReceived (k : LinkId) (c : Byte) (stopOk : Bool) (s : State) : Outcome State Fault Refusal :=
  whileRunning (fun s => s.character k c stopOk) s

/-! ## Discards and the end of a response (R165, R167, R168) -/

/-- FRAME_DISCARD (R167): the frame in reception is discarded. Without one there is nothing to discard. Log entry 2. -/
def execFrameDiscard (k : LinkId) (s : State) : Outcome State Fault Refusal :=
  whileRunning (fun s => if (s.link k).receiving then s.discardFrame k else s) s

/-- FRAME_GAP_TIMEOUT (R167): more than 50 ms pass between characters of the frame in reception, which is discarded. Each
character starts the gap afresh. -/
def execFrameGapTimeout (k : LinkId) (s : State) : Outcome State Fault Refusal :=
  whenDue (fun s => (s.link k).gapLeft) (fun s => if (s.link k).receiving then s.discardFrame k else s) s

/-- The end of a response: the link is WAITING, its receiver hunting, its direction output released, and its live divisor
is in force (R165, R168). -/
def State.responseEnds (s : State) (k : LinkId) : State :=
  if (s.link k).isSending then
    s.setLink k { rx := .hunting, gapLeft := 0, request := .waiting, rate := s.divisor k, rateHeld := false }
  else s

/-- RESPONSE_SENT (R168). -/
def execResponseSent (k : LinkId) (s : State) : Outcome State Fault Refusal :=
  whileRunning (fun s => s.responseEnds k) s

/-! ## The requests and their links (R169) -/

/-- The link a request belongs to and its code (R169's table); none for an event. -/
def requestOn : Instr → Option (LinkId × Byte)
  | .enroll _ _ _ => some (.facility, 0x10)
  | .lookup _ => some (.facility, 0x11)
  | .slotQuery _ => some (.facility, 0x12)
  | .nextLabel _ => some (.facility, 0x13)
  | .place _ _ => some (.facility, 0x14)
  | .relocate _ _ => some (.facility, 0x15)
  | .unbind _ => some (.facility, 0x16)
  | .retire _ => some (.facility, 0x17)
  | .clearMark _ _ => some (.facility, 0x18)
  | .setClass _ _ => some (.facility, 0x19)
  | .extendDue _ _ => some (.facility, 0x1A)
  | .openManifest _ _ _ _ => some (.facility, 0x20)
  | .addItem _ => some (.facility, 0x21)
  | .dropItem _ => some (.facility, 0x22)
  | .offerManifest => some (.facility, 0x23)
  | .cancelManifest => some (.facility, 0x24)
  | .readManifest => some (.facility, 0x25)
  | .releaseManifest => some (.facility, 0x26)
  | .enrolCourier _ _ _ => some (.facility, 0x28)
  | .revokeCourier _ => some (.facility, 0x29)
  | .unlockCourier _ => some (.facility, 0x2A)
  | .readCourier _ => some (.facility, 0x2B)
  | .setZoneMode _ _ => some (.facility, 0x30)
  | .setBoundary _ _ => some (.facility, 0x31)
  | .setClimate _ _ _ _ _ _ _ _ _ _ => some (.facility, 0x32)
  | .readZone _ => some (.facility, 0x33)
  | .resetDose _ => some (.facility, 0x34)
  | .setTrim _ _ _ => some (.facility, 0x35)
  | .setStartMode _ _ => some (.facility, 0x36)
  | .setConditioning _ _ _ => some (.facility, 0x37)
  | .readConditioning => some (.facility, 0x38)
  | .setLoop _ _ _ _ _ _ => some (.facility, 0x40)
  | .loopReturn _ => some (.facility, 0x41)
  | .clearLoopFlags _ _ _ _ => some (.facility, 0x42)
  | .abortRelease _ => some (.facility, 0x43)
  | .manualRelease _ => some (.facility, 0x44)
  | .resetAlarm _ => some (.facility, 0x45)
  | .bankReloaded => some (.facility, 0x46)
  | .setRelease _ _ _ _ _ => some (.facility, 0x47)
  | .status => some (.facility, 0x50)
  | .clearEvents _ => some (.facility, 0x51)
  | .setEventEnable _ => some (.facility, 0x52)
  | .setClock _ => some (.facility, 0x53)
  | .readClock => some (.facility, 0x54)
  | .setLine _ _ => some (.facility, 0x55)
  | .setExpect _ => some (.facility, 0x56)
  | .setLineFunction _ _ _ _ => some (.facility, 0x57)
  | .setTimers _ _ _ => some (.facility, 0x58)
  | .setClassLimit _ _ => some (.facility, 0x59)
  | .storeSettings => some (.facility, 0x5A)
  | .setLinkRate _ _ => some (.facility, 0x5B)
  | .identifyPart => some (.facility, 0x5F)
  | .identify _ _ => some (.hatch, 0x60)
  | .declare _ _ _ => some (.hatch, 0x61)
  | .deposit _ => some (.hatch, 0x62)
  | .accept _ => some (.hatch, 0x63)
  | .decline _ => some (.hatch, 0x64)
  | .view => some (.hatch, 0x65)
  | .finish => some (.hatch, 0x66)
  | .leave => some (.hatch, 0x67)
  | .hatchStatus => some (.hatch, 0x68)
  | .unknownRequest _ _ _ => none
  | .frameDiscard _ => none
  | .frameGapTimeout _ => none
  | .responseSent _ => none
  | .handoverTimerExpiry => none
  | .releaseTimerExpiry => none
  | .hatchOpenLimitReached => none
  | .verificationWindowExpiry _ => none
  | .countdownExpiry _ => none
  | .releasePulseEnd => none
  | .climateSample _ _ => none
  | .loopSample _ _ => none
  | .elapsedMinuteTick => none
  | .elapsedHourTick => none
  | .siteClockSecond => none
  | .storeWriteComplete => none
  | .inputLineChange _ _ => none
  | .resetAssert => none
  | .powerLoss => none
  | .startUp => none
  | .startUpComplete _ _ _ => none
  | .backupBelowRetention => none
  | .characterReceived _ _ _ => none

end Sys2Proof.Machine
end

