-- ==== Sys2Proof/Machine/Manifests.lean ====
section
/-! DEFINITION. The facility's requests on the manifest (R73, R76 to R79, R87, R89). -/

namespace Sys2Proof.Machine

open Host

/-- HU's answer to OPEN_MANIFEST (R76). -/
def ownOpenManifest (direction courier : Byte) (consignment dueHours : BitVec 16) (s : State) : Answer :=
  match entryOf courier with
  | none => refused s .badParam
  | some e =>
    if direction ≠ 0 ∨ dueHours.toNat < 1 ∨ 8760 < dueHours.toNat then refused s .badParam
    else
      match s.ret.couriers[e] with
      | none => refused s .notFound
      | some c =>
        if c.locked then refused s .courierLocked
        else if s.ret.clockValid = false then refused s .clockInvalid
        else if s.manifest.isSome then refused s .busy
        else
          let m : Manifest :=
            { stage := .building, route := .outbound dueHours.toNat, courier := e, consignment := consignment, items := [] }
          let t : State := { s with manifest := some m }
          accepted t (t.header m)

/-- OPEN_MANIFEST (R76). -/
def execOpenManifest (direction courier : Byte) (consignment dueHours : BitVec 16) (s : State) :
    Outcome State Fault Refusal :=
  takeRequest .facility 0x20 (.openManifest direction courier consignment dueHours)
    (ownOpenManifest direction courier consignment dueHours) s

/-- The manifest while it is BUILDING (R77 to R79). -/
def State.building (s : State) : Option Manifest :=
  match s.manifest with
  | some m => if m.stage = .building then some m else none
  | none => none

/-- The refusal of the first eligibility test a record fails, none when it is eligible for check-out (R23). -/
def State.eligibilityRefusal (s : State) (r : Record) : Option Status :=
  match r.state, r.home with
  | .shelved, some h =>
    match s.gate (s.zoneOfSlot h) with
    | some x => some x
    | none =>
      match s.gate .zc with
      | some x => some x
      | none => if r.marks.exposed ∨ r.marks.agent ∨ r.marks.worn then some .marked else none
  | _, _ => some .wrongState

/-- HU's answer to ADD_ITEM (R77). -/
def ownAddItem (label : Label) (s : State) : Answer :=
  if labelOk label = false then refused s .badParam
  else
    match s.building with
    | none => refused s .wrongState
    | some m =>
      if (findItem label m.items).isSome then refused s .alreadyExists
      else if Config.manifestSize ≤ m.items.length then refused s .manifestFull
      else
        match s.find label with
        | none => refused s .notFound
        | some r =>
          match s.eligibilityRefusal r with
          | some x => refused s x
          | none =>
            let items := m.items ++ [{ label := label, state := .listed }]
            let t : State := { s.modifyRecord label s.staged with manifest := some { m with items := items } }
            accepted t ([byteOf items.length] ++ t.summary (s.staged r))

/-- ADD_ITEM (R77). -/
def execAddItem (label : Label) (s : State) : Outcome State Fault Refusal :=
  takeRequest .facility 0x21 (.addItem label) (ownAddItem label) s

/-- HU's answer to DROP_ITEM (R78). Each item's record is STAGED and so in the table (R70); for an item without one, which
no run reaches, the answer carries the number of items alone. -/
def ownDropItem (label : Label) (s : State) : Answer :=
  if labelOk label = false then refused s .badParam
  else
    match s.building with
    | none => refused s .wrongState
    | some m =>
      if (findItem label m.items).isNone then refused s .notFound
      else
        let items := m.items.filter fun i => !decide (i.label = label)
        let t : State := { s.modifyRecord label s.reverted with manifest := some { m with items := items } }
        accepted t ([byteOf items.length]
          ++ (match s.find label with
              | some r => t.summary (s.reverted r)
              | none => []))

/-- DROP_ITEM (R78). -/
def execDropItem (label : Label) (s : State) : Outcome State Fault Refusal :=
  takeRequest .facility 0x22 (.dropItem label) (ownDropItem label) s

/-- The hatch conditions other than the link and the manifest, as a refusal: ZC's mode, ZC's fire state, any zone in
COUNTDOWN or DISCHARGED (R79, R83). -/
def State.hatchRefusal (s : State) : Option Status :=
  if s.mode .zc ≠ .online then some .zoneMode
  else if (s.fire .zc).isOpen = false then some .zoneFire
  else if s.anyCountdownOrDischarged then some .zoneFire
  else none

/-- HU's answer to OFFER_MANIFEST (R79): the manifest becomes OFFERED, or ACTIVE at once when its courier is on the link. -/
def ownOfferManifest (s : State) : Answer :=
  match s.building with
  | none => refused s .wrongState
  | some m =>
    if m.items.isEmpty then refused s .wrongState
    else
      match s.hatchRefusal with
      | some x => refused s x
      | none =>
        let m' := { m with stage := if s.identified = some m.courier then .active else .offered }
        accepted { s.restartHandover with manifest := some m' } [byteOf (manifestStateNumber (some m'))]

/-- OFFER_MANIFEST (R79). -/
def execOfferManifest (s : State) : Outcome State Fault Refusal :=
  takeRequest .facility 0x23 .offerManifest ownOfferManifest s

/-- HU's answer to CANCEL_MANIFEST (R87). -/
def ownCancelManifest (s : State) : Answer :=
  match s.manifest with
  | none => refused s .wrongState
  | some m => if m.stage.isOpen then accepted (s.closeWith m .cancelled) [] else refused s .wrongState

/-- CANCEL_MANIFEST (R87). -/
def execCancelManifest (s : State) : Outcome State Fault Refusal :=
  takeRequest .facility 0x24 .cancelManifest ownCancelManifest s

/-- HU's answer to READ_MANIFEST (R89). -/
def ownReadManifest (s : State) : Answer :=
  match s.manifest with
  | none => refused s .wrongState
  | some m => accepted s (s.manifestBytes m)

/-- READ_MANIFEST (R89). -/
def execReadManifest (s : State) : Outcome State Fault Refusal :=
  takeRequest .facility 0x25 .readManifest ownReadManifest s

/-- The CLOSED manifest becomes FREE and the release timer stops (R66, R73). -/
def State.freeManifest (s : State) : State := { s with manifest := none, releaseTimer := none }

/-- HU's answer to RELEASE_MANIFEST (R73). -/
def ownReleaseManifest (s : State) : Answer :=
  match s.manifest with
  | none => refused s .wrongState
  | some m => if m.stage.isOpen then refused s .wrongState else accepted s.freeManifest []

/-- RELEASE_MANIFEST (R73). -/
def execReleaseManifest (s : State) : Outcome State Fault Refusal :=
  takeRequest .facility 0x26 .releaseManifest ownReleaseManifest s

end Sys2Proof.Machine
end

