-- ==== Sys2Proof/Machine/Hatch.lean ====
section
/-! DEFINITION. The courier terminal's requests on the hatch link (R55 to R59, R65, R80 to R86, R90) and the hold of a
returned record (R117, R118). -/

namespace Sys2Proof.Machine

open Host

/-! ## Identification (R55 to R57) -/

/-- The entry after a wrong code (R56): one more failed attempt, and locked at the third. -/
def Courier.failed (c : Courier) : Courier :=
  { c with attempts := c.attempts + 1, locked := c.locked || decide (3 ≤ c.attempts + 1) }

/-- A wrong code is counted against an entry; COURIER_LOCKED is raised when the count reaches 3 (R56). -/
def State.failedAttempt (s : State) (e : Fin 16) (c : Courier) : State :=
  (s.setCourier e (some c.failed)).raiseIf (decide (3 ≤ c.attempts + 1)) .courierLocked

/-- The manifest is OFFERED to another courier (R55, test 7). -/
def State.offeredToOther (s : State) (e : Fin 16) : Bool :=
  match s.manifest with
  | some m => decide (m.stage = .offered) && !decide (m.courier = e)
  | none => false

/-- The manifest after its courier identifies: an OFFERED one becomes ACTIVE, and any other is unchanged (R55). -/
def Manifest.activate (m : Manifest) : Manifest := if m.stage = .offered then { m with stage := .active } else m

/-- The identification: the link is IDENTIFIED, an OFFERED manifest becomes ACTIVE, and the handover timer runs from its
full length (R54, R55). -/
def State.identifyAs (s : State) (e : Fin 16) : State :=
  { s.restartHandover with hatch := .identified e, manifest := s.manifest.map Manifest.activate }

/-- A LAPSED link becomes IDLE as IDENTIFY is taken (R55). -/
def State.endLapse (s : State) : State := if s.hatch = .lapsed then { s with hatch := .idle } else s

/-- HU's answer to IDENTIFY (R55). The failed attempt of test 5 and the cleared count of test 6 stand with a refusal. -/
def ownIdentify (badge : BitVec 24) (code : AccessCode) (s : State) : Answer :=
  let s := s.endLapse
  match codeOf code with
  | none => refused s .badParam
  | some given =>
    if s.identified.isSome then refused s .busy
    else
      match s.badgeHolder badge with
      | none => refused s .notFound
      | some e =>
        match s.ret.couriers[e] with
        | none => refused s .notFound
        | some c =>
          if c.locked then refused s .courierLocked
          else if given ≠ c.code then refused (s.failedAttempt e c) .codeRefused
          else
            let s := s.setCourier e (some { c with attempts := 0 })
            if s.offeredToOther e then refused s .wrongCourier
            else
              let t := s.identifyAs e
              accepted t ([byteOf e.val, byteOf (manifestStateNumber t.manifest)] ++ directionByte t.manifest)

/-- IDENTIFY (R55). -/
def execIdentify (badge : BitVec 24) (code : AccessCode) (s : State) : Outcome State Fault Refusal :=
  takeRequest .hatch 0x60 (.identify badge code) (ownIdentify badge code) s

/-- The hatch link state tested first: NOT_IDENTIFIED in IDLE and TOO_LATE in LAPSED, nothing changed (R53). -/
def whenIdentified (s : State) (f : Fin 16 → Answer) : Answer :=
  match s.hatch with
  | .idle => refused s .notIdentified
  | .lapsed => refused s .tooLate
  | .identified e => f e

/-- The manifest while it is ACTIVE. -/
def State.active (s : State) : Option Manifest :=
  match s.manifest with
  | some m => if m.stage = .active then some m else none
  | none => none

/-! ## Declaring and depositing (R83, R84) -/

/-- A declared case value, clamped to its range when present (R83). -/
def caseValue (lo hi : Int) (i : Option Int) : Option Int := i.map (clampInt lo hi)

/-- HU's answer to DECLARE (R83). The temperature is a signed field and the humidity an unsigned one (R173). -/
def ownDeclare (consignment : BitVec 16) (caseT caseH : Option (BitVec 16)) (s : State) : Answer :=
  whenIdentified s fun e =>
    if s.manifest.isSome then refused s .busy
    else
      match s.hatchRefusal with
      | some x => refused s x
      | none =>
        let m : Manifest :=
          { stage := .active
            route := .inbound (caseValue (-400) 850 (caseT.map BitVec.toInt))
              (caseValue 0 1000 (caseH.map fun h => (h.toNat : Int)))
            courier := e, consignment := consignment, items := [] }
        let t : State := { s.restartHandover with manifest := some m }
        accepted t (t.header m)

/-- DECLARE (R83). -/
def execDeclare (consignment : BitVec 16) (caseT caseH : Option (BitVec 16)) (s : State) : Outcome State Fault Refusal :=
  takeRequest .hatch 0x61 (.declare consignment caseT caseH) (ownDeclare consignment caseT caseH) s

/-- The hold of a returned record: 720 when either case value is absent (R118); otherwise the weighted distances from ZC's
targets, divided by 10 rounded up, with base added, and held at 720 (R117). -/
def holdOf (c : Coefficients) (tTarget rhTarget : Int) (caseT caseH : Option Int) : Nat :=
  match caseT, caseH with
  | some tc, some hc =>
    min 720 (((tc - tTarget).natAbs * c.kT + (hc - rhTarget).natAbs * c.kH + 9) / 10 + c.base)
  | _, _ => 720

/-- The hold of a deposit under the live coefficients and ZC's live targets (R117). -/
def State.holdFor (s : State) (caseT caseH : Option Int) : Nat :=
  holdOf s.live.conditioning (s.settings .zc).climate.tTarget (s.settings .zc).climate.rhTarget caseT caseH

/-- The item a deposit makes (R84): UNKNOWN without a record, CONFLICT for a record that is not OUT, and otherwise RETURNED
with the hold and whether the custody part named another courier. -/
def depositItem (hold : Nat) (courier : Fin 16) : Option Record → ItemState
  | none => .unknown
  | some r =>
    match r.state with
    | .out c _ _ => .returned hold (!decide (c = courier))
    | _ => .conflict

/-- The item state is RETURNED. -/
def ItemState.isReturned : ItemState → Bool
  | .returned _ _ => true
  | _ => false

/-- The results of a DEPOSIT: the item state, and for a RETURNED item the hold and the other-courier indication (R84). -/
def depositResults (i : ItemState) : List Byte :=
  [byteOf i.number]
    ++ match i with
       | .returned hold other => be16 hold ++ [yesNo other]
       | _ => absent 2 ++ absent 1

/-- HU's answer to DEPOSIT (R84): the item is appended, an OUT record is returned with its hold, and HOLD_DONE is raised
for a hold of 0. -/
def ownDeposit (label : Label) (s : State) : Answer :=
  whenIdentified s fun _ =>
    if labelOk label = false then refused s .badParam
    else
      match s.active with
      | none => refused s .wrongState
      | some m =>
        match m.route with
        | .outbound _ => refused s .wrongState
        | .inbound caseT caseH =>
          if Config.manifestSize ≤ m.items.length then refused s .manifestFull
          else if (findItem label m.items).isSome then refused s .alreadyExists
          else
            let hold := s.holdFor caseT caseH
            let item := depositItem hold m.courier (s.find label)
            let t : State := { (s.modifyRecord label (s.returned hold)).restartHandover with
              manifest := some { m with items := m.items ++ [{ label := label, state := item }] } }
            accepted (t.raiseIf (item.isReturned && decide (hold = 0)) .holdDone) (depositResults item)

/-- DEPOSIT (R84). -/
def execDeposit (label : Label) (s : State) : Outcome State Fault Refusal :=
  takeRequest .hatch 0x62 (.deposit label) (ownDeposit label) s

/-! ## Accepting, declining and viewing (R80, R81, R90) -/

/-- The list of items with the state of one label's item replaced. -/
def markItem (label : Label) (x : ItemState) (items : List Item) : List Item :=
  items.map fun i => if i.label = label then { i with state := x } else i

/-- HU's answer to ACCEPT and to DECLINE (R80, R81): the item of an ACTIVE OUTBOUND manifest takes the given state. -/
def ownChoose (label : Label) (x : ItemState) (s : State) : Answer :=
  whenIdentified s fun _ =>
    if labelOk label = false then refused s .badParam
    else
      match s.active with
      | none => refused s .wrongState
      | some m =>
        match m.route with
        | .inbound _ _ => refused s .wrongState
        | .outbound _ =>
          if (findItem label m.items).isNone then refused s .notFound
          else
            accepted { s.restartHandover with manifest := some { m with items := markItem label x m.items } }
              (label.toList ++ [byteOf x.number])

/-- ACCEPT (R80). -/
def execAccept (label : Label) (s : State) : Outcome State Fault Refusal :=
  takeRequest .hatch 0x63 (.accept label) (ownChoose label .accepted) s

/-- DECLINE (R81). -/
def execDecline (label : Label) (s : State) : Outcome State Fault Refusal :=
  takeRequest .hatch 0x64 (.decline label) (ownChoose label .declined) s

/-- HU's answer to VIEW (R90). -/
def ownView (s : State) : Answer :=
  whenIdentified s fun _ =>
    match s.active with
    | none => refused s .wrongState
    | some m => accepted s.restartHandover m.viewBytes

/-- VIEW (R90). -/
def execView (s : State) : Outcome State Fault Refusal :=
  takeRequest .hatch 0x65 .view ownView s

/-! ## Finishing and leaving (R59, R82, R85, R86) -/

/-- How many items of a list satisfy a test. -/
def countItems (p : ItemState → Bool) (items : List Item) : Nat := (items.filter fun i => p i.state).length

/-- The results of a FINISH: the numbers checked out and reverted, or of RETURNED, CONFLICT and UNKNOWN items (R82, R85). -/
def finishResults (m : Manifest) : List Byte :=
  match m.route with
  | .outbound _ =>
    [byteOf (countItems (fun x => decide (x = .accepted)) m.items),
      byteOf (countItems (fun x => !decide (x = .accepted)) m.items)]
  | .inbound _ _ =>
    [byteOf (countItems ItemState.isReturned m.items), byteOf (countItems (fun x => decide (x = .conflict)) m.items),
      byteOf (countItems (fun x => decide (x = .unknown)) m.items)]

/-- HU's answer to FINISH (R82, R85). -/
def ownFinish (s : State) : Answer :=
  whenIdentified s fun _ =>
    match s.active with
    | none => refused s .wrongState
    | some m => accepted (s.closeWith m .complete) (finishResults m)

/-- FINISH (R82, R85). -/
def execFinish (s : State) : Outcome State Fault Refusal :=
  takeRequest .hatch 0x66 .finish ownFinish s

/-- The link becomes IDLE with the manifest unchanged: the timer of an OFFERED manifest keeps running, and the
identification timing stops (R59). -/
def State.endVisit (s : State) : State :=
  { s with hatch := .idle, handoverTimer := if s.manifestOffered then s.handoverTimer else none }

/-- HU's answer to LEAVE (R59, R86). In LAPSED it is TOO_LATE and the link becomes IDLE. Log entry 14. -/
def ownLeave (s : State) : Answer :=
  match s.hatch with
  | .idle => refused s .notIdentified
  | .lapsed => refused { s with hatch := .idle } .tooLate
  | .identified _ =>
    match s.active with
    | some m => accepted (s.closeWith m .left) [byteOf Cause.left.number]
    | none => accepted s.endVisit []

/-- LEAVE (R59, R86). -/
def execLeave (s : State) : Outcome State Fault Refusal :=
  takeRequest .hatch 0x67 .leave ownLeave s

/-! ## Hatch status (R65) -/

/-- The HATCH_STATUS result: link state, courier, manifest state, direction, handover time, lock, door (R65). -/
def State.hatchBytes (s : State) : List Byte :=
  [byteOf s.hatch.number]
    ++ (match s.identified with
        | some e => [byteOf e.val]
        | none => absent 1)
    ++ [byteOf (manifestStateNumber s.manifest)] ++ directionByte s.manifest ++ be16 (secondsLeft s.handoverTimer)
    ++ [yesNo s.lockAsserted, yesNo s.doorOpen]

/-- HU's answer to HATCH_STATUS (R65). -/
def ownHatchStatus (s : State) : Answer := accepted s s.hatchBytes

/-- HATCH_STATUS (R65). -/
def execHatchStatus (s : State) : Outcome State Fault Refusal :=
  takeRequest .hatch 0x68 .hatchStatus ownHatchStatus s

end Sys2Proof.Machine
end

