-- ==== Sys2Proof/Machine/Loops.lean ====
section
/-! DEFINITION. The loop supervisor: a loop's sample, the trouble counter, recovery, the fault flags, and the requests on
loops (R127 to R142). -/

namespace Sys2Proof.Machine

open Host

/-! ## Classification and fault flags (R127, R128, R138) -/

/-- The loop value of a converter count: the count divided by 4, rounded down (R127). -/
def loopValue (count : BitVec 12) : Nat := count.toNat / 4

/-- The class of a loop value (R128). -/
def classify (c : LoopSettings) (value : Nat) : LoopClass :=
  if value ≤ c.openMax then .openCircuit
  else if value ≤ c.normalMax then .normal
  else if value ≤ c.alarmMax then .alarm
  else .short

/-- All three fault flags are clear. -/
def FaultFlags.allClear (f : FaultFlags) : Bool := !f.openSeen && !f.shortSeen && !f.alarmSeen

/-- The fault flags with the flag of a class set; NORMAL is the cause of none (R138). -/
def FaultFlags.see (f : FaultFlags) : LoopClass → FaultFlags
  | .openCircuit => { f with openSeen := true }
  | .short => { f with shortSeen := true }
  | .alarm => { f with alarmSeen := true }
  | .normal => f

/-- The fault flags after a sample: under FIRST a cause sets its flag only when all three are clear (R138). -/
def FaultFlags.capture (f : FaultFlags) (mode : Capture) (cls : LoopClass) : FaultFlags :=
  match mode with
  | .all => f.see cls
  | .first => if f.allClear then f.see cls else f

/-! ## The trouble counter and recovery (R129 to R135) -/

/-- The loop state of a counter (R130). -/
def stateOfTrouble (n : Nat) : LoopState := if n ≤ 95 then .sound else if n ≤ 127 then .warn else .degraded

/-- The class accuses the wiring: OPEN or SHORT (R129). -/
def LoopClass.isFault : LoopClass → Bool
  | .openCircuit => true
  | .short => true
  | _ => false

/-- What a sample does beside its change to the loop: the events it raises and whether it freezes the zone. -/
structure LoopEffect where
  loop : Loop
  warned : Bool
  isolated : Bool
  recovered : Bool
  freezes : Bool

/-- A change of the loop that raises nothing. -/
def quietly (l : Loop) : LoopEffect :=
  { loop := l, warned := false, isolated := false, recovered := false, freezes := false }

/-- The loop with its counter changed and its state set from it; LOOP_WARN at a change from SOUND to WARN (R130). -/
def Loop.count (l : Loop) (n : Nat) : LoopEffect :=
  { quietly { l with trouble := n, state := stateOfTrouble n } with
    warned := decide (l.state = .sound) && decide (stateOfTrouble n = .warn) }

/-- A sample of a loop that is not ISOLATED (R129 to R131): OPEN and SHORT raise the counter by 8 or isolate the loop,
NORMAL lowers it by 1, ALARM leaves it. -/
def Loop.sampleInService (l : Loop) (policy : Policy) (cls : LoopClass) : LoopEffect :=
  if cls.isFault then
    if 255 < l.trouble + 8 then
      { quietly { l with state := .isolated, trouble := 255, run := 0 } with
        isolated := true, freezes := decide (policy = .freezeAtIsolate) }
    else l.count (l.trouble + 8)
  else if cls = .normal then l.count (l.trouble - 1)
  else quietly l

/-- The loop returned to SOUND with counter 0 and run 0, its fault flags as they stood (R134, R136). -/
def Loop.returned (l : Loop) : Loop := { l with state := .sound, trouble := 0, run := 0, ready := false }

/-- A completed run acts by the policy (R134, R135). -/
def Loop.completeRun (l : Loop) (policy : Policy) : LoopEffect :=
  match policy with
  | .auto => { quietly l.returned with recovered := true }
  | .freezeAtRecovery => { quietly l.returned with recovered := true, freezes := true }
  | .onRequest => quietly { l with ready := true }
  | .freezeAtIsolate => quietly l

/-- A sample of an ISOLATED loop (R132, R133): NORMAL lengthens the recovery run, held at 64, and completes it at 64; any
other class sets the run to 0 and removes "recovery ready". -/
def Loop.sampleIsolated (l : Loop) (policy : Policy) (cls : LoopClass) : LoopEffect :=
  if cls = .normal then
    let run := min 64 (l.run + 1)
    if run = 64 then ({ l with run := run } : Loop).completeRun policy else quietly { l with run := run }
  else quietly { l with run := 0, ready := false }

/-- A sample at the loop: its latest value and class, its fault flag, then its counter or its recovery run (R128). -/
def Loop.sample (l : Loop) (c : LoopSettings) (value : Nat) : LoopEffect :=
  let cls := classify c value
  let l' := { l with latest := some (value, cls), flags := l.flags.capture c.capture cls }
  if l.state = .isolated then l'.sampleIsolated c.policy cls else l'.sampleInService c.policy cls

/-- A sample of a zone's loop, whole: the loop, its events, the freeze it asks of ZN, and the ALARM it hands to RS when the
loop is not ISOLATED (R127, R128, R142). -/
def State.sampleLoop (s : State) (z : Zone) (count : BitVec 12) : State :=
  let v := s.zones.get z
  let c := (s.settings z).loop
  let e := v.loop.sample c (loopValue count)
  let s1 := (((s.setZone z { v with loop := e.loop, loopLeft := 500 }).raiseIf e.warned .loopWarn).raiseIf e.isolated
    .loopIsolated).raiseIf e.recovered .loopRecovered
  let s2 := if e.freezes then s1.freeze z else s1
  if v.loop.state ≠ .isolated ∧ classify c (loopValue count) = .alarm then s2.alarmSample z else s2

/-- LOOP_SAMPLE (R127): half a second after the one before it. -/
def execLoopSample (z : Zone) (count : BitVec 12) (s : State) : Outcome State Fault Refusal :=
  whenDue (fun s => (s.zones.get z).loopLeft) (fun s => s.sampleLoop z count) s

/-! ## Requests (R136, R139, R140) -/

/-- The settings of a loop in the order SET_LOOP names them. -/
def LoopSettings.bytes (c : LoopSettings) : List Byte :=
  be16 c.openMax ++ be16 c.normalMax ++ be16 c.alarmMax ++ [byteOf c.policy.number, byteOf c.capture.number]

/-- LS's answer to SET_LOOP (R140, R141): a policy other than ON_REQUEST removes "recovery ready". -/
def ownSetLoop (loop : Byte) (openMax normalMax alarmMax : BitVec 16) (policy capture : Byte) (s : State) : Answer :=
  match zoneOf loop, policyOf policy, captureOf capture with
  | some z, some p, some m =>
    if 1023 < openMax.toNat ∨ 1023 < normalMax.toNat ∨ 1023 < alarmMax.toNat then refused s .badParam
    else if ¬ (openMax.toNat < normalMax.toNat ∧ normalMax.toNat < alarmMax.toNat) then refused s .badParam
    else if s.mode z ≠ .offline then refused s .zoneMode
    else if s.storeBusy then refused s .storeBusy
    else
      let c : LoopSettings :=
        { openMax := openMax.toNat, normalMax := normalMax.toNat, alarmMax := alarmMax.toNat, policy := p, capture := m }
      let l := (s.zones.get z).loop
      accepted
        ((s.setSettings z { s.settings z with loop := c }).setLoop z
          { l with ready := l.ready && decide (p = .onRequest) })
        c.bytes
  | _, _, _ => refused s .badParam

/-- SET_LOOP (R140). -/
def execSetLoop (loop : Byte) (openMax normalMax alarmMax : BitVec 16) (policy capture : Byte) (s : State) :
    Outcome State Fault Refusal :=
  takeRequest .facility 0x40 (.setLoop loop openMax normalMax alarmMax policy capture)
    (ownSetLoop loop openMax normalMax alarmMax policy capture) s

/-- LS's answer to LOOP_RETURN (R136). -/
def ownLoopReturn (loop : Byte) (s : State) : Answer :=
  match zoneOf loop with
  | none => refused s .badParam
  | some z =>
    let l := (s.zones.get z).loop
    if l.state ≠ .isolated then refused s .wrongState
    else
      accepted
        ((s.setLoop z l.returned).raiseIf (decide ((s.settings z).loop.policy = .onRequest) && l.ready) .loopRecovered)
        [byteOf z.number, byteOf LoopState.sound.number]

/-- LOOP_RETURN (R136). -/
def execLoopReturn (loop : Byte) (s : State) : Outcome State Fault Refusal :=
  takeRequest .facility 0x41 (.loopReturn loop) (ownLoopReturn loop) s

/-- The fault flags with the chosen ones cleared (R139). -/
def FaultFlags.clear (f : FaultFlags) (openSeen shortSeen alarmSeen : Bool) : FaultFlags :=
  { openSeen := f.openSeen && !openSeen, shortSeen := f.shortSeen && !shortSeen, alarmSeen := f.alarmSeen && !alarmSeen }

/-- LS's answer to CLEAR_LOOP_FLAGS (R139). -/
def ownClearLoopFlags (loop : Byte) (openSeen shortSeen alarmSeen : Bool) (s : State) : Answer :=
  match zoneOf loop with
  | none => refused s .badParam
  | some z =>
    let l := (s.zones.get z).loop
    let f := l.flags.clear openSeen shortSeen alarmSeen
    accepted (s.setLoop z { l with flags := f }) [yesNo f.openSeen, yesNo f.shortSeen, yesNo f.alarmSeen]

/-- CLEAR_LOOP_FLAGS (R139). -/
def execClearLoopFlags (loop : Byte) (openSeen shortSeen alarmSeen : Bool) (s : State) : Outcome State Fault Refusal :=
  takeRequest .facility 0x42 (.clearLoopFlags loop openSeen shortSeen alarmSeen)
    (ownClearLoopFlags loop openSeen shortSeen alarmSeen) s

end Sys2Proof.Machine
end

