-- ==== Sys2Proof/Machine/Panel.lean ====
section
/-! DEFINITION. The requests on the part as a whole: events (R180), the site clock (R185), the lines (R182 to R184), the timer
lengths (R75), the settings store (R187), the link rates (R165) and the part's identity (R171); and the change of an input
line (R181). -/

namespace Sys2Proof.Machine

open Host

/-! ## Events (R180) -/

/-- EV's answer to STATUS (R180). -/
def ownStatus (s : State) : Answer := accepted s s.statusBytes

/-- STATUS (R180). -/
def execStatus (s : State) : Outcome State Fault Refusal := takeRequest .facility 0x50 .status ownStatus s

/-- EV's answer to CLEAR_EVENTS (R180). -/
def ownClearEvents (choice : BitVec 24) (s : State) : Answer :=
  let flags := s.flags &&& ~~~choice
  accepted { s with flags := flags } (be24 flags.toNat)

/-- CLEAR_EVENTS (R180). -/
def execClearEvents (choice : BitVec 24) (s : State) : Outcome State Fault Refusal :=
  takeRequest .facility 0x51 (.clearEvents choice) (ownClearEvents choice) s

/-- EV's answer to SET_EVENT_ENABLE (R180). -/
def ownSetEventEnable (enables : BitVec 24) (s : State) : Answer :=
  if s.storeBusy then refused s .storeBusy
  else accepted { s with live := { s.live with enables := enables } } (be24 enables.toNat)

/-- SET_EVENT_ENABLE (R180). -/
def execSetEventEnable (enables : BitVec 24) (s : State) : Outcome State Fault Refusal :=
  takeRequest .facility 0x52 (.setEventEnable enables) (ownSetEventEnable enables) s

/-! ## The site clock (R185) -/

/-- The count and the valid flag, the results of the two clock requests. -/
def State.clockBytes (s : State) : List Byte := be32 s.ret.clock ++ [yesNo s.ret.clockValid]

/-- SC's answer to SET_CLOCK (R185): the count is set, the next second starts, the clock is valid, and the overdue check is
made in the same step. -/
def ownSetClock (count : BitVec 32) (s : State) : Answer :=
  let t := State.overdueCheck { s with ret := { s.ret with clock := count.toNat, clockValid := true }, secondLeft := 1000 }
  accepted t t.clockBytes

/-- SET_CLOCK (R185). -/
def execSetClock (count : BitVec 32) (s : State) : Outcome State Fault Refusal :=
  takeRequest .facility 0x53 (.setClock count) (ownSetClock count) s

/-- SC's answer to READ_CLOCK (R185). -/
def ownReadClock (s : State) : Answer := accepted s s.clockBytes

/-- READ_CLOCK (R185). -/
def execReadClock (s : State) : Outcome State Fault Refusal := takeRequest .facility 0x54 .readClock ownReadClock s

/-- The largest site clock count (R185). -/
def clockCeiling : Nat := 4294967295

/-- The clock's second, when it has passed: the count rises by 1 and saturates; without main power it needs the backup supply
above retention (R185, R189). A SET_CLOCK starts the next second, so one that was under way does not end. -/
def State.clockSecond (s : State) : State :=
  if s.secondLeft ≠ 0 then s
  else if s.phase = .unpowered ∧ s.monitorFell = true then s
  else { s with ret := { s.ret with clock := min clockCeiling (s.ret.clock + 1) }, secondLeft := 1000 }

/-- SITE_CLOCK_SECOND (R185): on main power and on the backup supply alike. -/
def execSiteClockSecond (s : State) : Outcome State Fault Refusal := .next s.clockSecond

/-- ELAPSED_HOUR_TICK (R21, R185), when the hour has passed: the overdue check while the clock is valid. The next tick is an
hour of running time away. -/
def execElapsedHourTick (s : State) : Outcome State Fault Refusal :=
  whenDue State.hourLeft (fun s => { (if s.ret.clockValid then s.overdueCheck else s) with hourLeft := 3600000 }) s

/-! ## Lines (R181 to R184) -/

/-- A 12-bit set of levels with one line's level replaced. -/
def setLevelBit (levels : BitVec 12) (n : Fin 12) (level : Bool) : BitVec 12 :=
  if level then levels ||| (1#12 <<< n.val) else levels &&& ~~~(1#12 <<< n.val)

/-- LN's answer to SET_LINE (R183): the line number, its host level and the level now driven. Log entry 15. -/
def ownSetLine (line : Byte) (level : Bool) (s : State) : Answer :=
  match lineOf line with
  | none => refused s .badParam
  | some n =>
    if s.storeBusy then refused s .storeBusy
    else
      let t := { s with live := { s.live with hostLevels := setLevelBit s.live.hostLevels n level } }
      accepted t [byteOf n.val, yesNo level, yesNo (t.outputAsserted n)]

/-- SET_LINE (R183). -/
def execSetLine (line : Byte) (level : Bool) (s : State) : Outcome State Fault Refusal :=
  takeRequest .facility 0x55 (.setLine line level) (ownSetLine line level) s

/-- LN's answer to SET_EXPECT (R182): bits 12 to 15 are not read (R173). -/
def ownSetExpect (levels : BitVec 16) (s : State) : Answer :=
  if s.storeBusy then refused s .storeBusy
  else
    let t := { s with live := { s.live with expected := levels.setWidth 12 } }
    accepted (t.raiseIf (entersMismatch s t) .inputChange) (be16 t.live.expected.toNat ++ be16 t.levels.toNat)

/-- SET_EXPECT (R182). -/
def execSetExpect (levels : BitVec 16) (s : State) : Outcome State Fault Refusal :=
  takeRequest .facility 0x56 (.setExpect levels) (ownSetExpect levels) s

/-- An input line takes a function: the door follows the change untested for HATCH_FORCED, and INPUT_CHANGE is raised when
a line gaining NONE is in mismatch (R62, R182, R184). -/
def State.setInputFunction (s : State) (n : Fin 12) (f : InputFunction) : State :=
  let t := followDoor s { s with live := { s.live with inputs := s.live.inputs.set n f } }
  t.raiseIf (entersMismatch s t) .inputChange

/-- An output line takes a function, and is driven by it at once (R184). -/
def State.setOutputFunction (s : State) (n : Fin 12) (f : OutputFunction) : State :=
  { s with live := { s.live with outputs := s.live.outputs.set n f } }

/-- LN's answer to SET_LINE_FUNCTION (R184). -/
def ownSetLineFunction (direction line function zone : Byte) (s : State) : Answer :=
  let change : Option (State → State) :=
    match lineOf line, direction.toNat with
    | some n, 0 => (inputFunctionOf function zone).map fun f s => s.setInputFunction n f
    | some n, 1 => (outputFunctionOf function zone).map fun f s => s.setOutputFunction n f
    | _, _ => none
  match change with
  | none => refused s .badParam
  | some f =>
    if s.allOffline = false then refused s .zoneMode
    else if s.storeBusy then refused s .storeBusy
    else accepted (f s) [direction, line, function, zone]

/-- SET_LINE_FUNCTION (R184). -/
def execSetLineFunction (direction line function zone : Byte) (s : State) : Outcome State Fault Refusal :=
  takeRequest .facility 0x57 (.setLineFunction direction line function zone)
    (ownSetLineFunction direction line function zone) s

/-- The state with one line's debounced level replaced. -/
def State.setLevel (s : State) (n : Fin 12) (level : Bool) : State := { s with levels := setLevelBit s.levels n level }

/-- A change of a HATCH_DOOR line: an opening that begins under an asserted lock raises HATCH_FORCED (R62, R63). -/
def doorChanged (before after : State) : State :=
  (followDoor before after).raiseIf (!before.doorOpen && after.doorOpen && after.lockAsserted) .hatchForced

/-- A change of an ABORT line: the abort input, the OR of all ABORT lines, may become asserted or deasserted (R153). -/
def abortLineChanged (before after : State) : State :=
  if before.abortAsserted = after.abortAsserted then after else after.abortChanged after.abortAsserted

/-- The debounced level of an input line changes, and the block that uses the line's function takes the change (R181). A
level that the line already has is no change. -/
def State.lineChange (s : State) (n : Fin 12) (level : Bool) : State :=
  if s.level n = level then s
  else
    let t := s.setLevel n level
    match s.inputFunction n with
    | .none => t.raiseIf (entersMismatch s t) .inputChange
    | .hatchDoor => doorChanged s t
    | .abort => abortLineChanged s t
    | .manualRelease z => if level then t.secondKnock z else t
    | .bankLow => t

/-- INPUT_LINE_CHANGE (R181). -/
def execInputLineChange (n : Fin 12) (level : Bool) (s : State) : Outcome State Fault Refusal :=
  whileRunning (fun s => s.lineChange n level) s

/-! ## Timer lengths (R75) -/

/-- The timer lengths of a SET_TIMERS, each clamped (R75). -/
def clampedTimers (handover release openLimit : BitVec 16) : TimerLengths :=
  { handover := clampNat 30 900 handover.toNat
    release := clampNat 10 600 release.toNat
    openLimit := clampNat 10 300 openLimit.toNat }

/-- HU's answer to SET_TIMERS (R75): a running timer keeps its remaining time. -/
def ownSetTimers (handover release openLimit : BitVec 16) (s : State) : Answer :=
  if s.storeBusy then refused s .storeBusy
  else
    let x := clampedTimers handover release openLimit
    accepted { s with live := { s.live with timers := x } } (be16 x.handover ++ be16 x.release ++ be16 x.openLimit)

/-- SET_TIMERS (R75). -/
def execSetTimers (handover release openLimit : BitVec 16) (s : State) : Outcome State Fault Refusal :=
  takeRequest .facility 0x58 (.setTimers handover release openLimit) (ownSetTimers handover release openLimit) s

/-! ## The settings store (R187, R188) -/

/-- SS's answer to STORE_SETTINGS (R187): the write begins with the valid mark erased and every live tunable as it stands. -/
def ownStoreSettings (s : State) : Answer :=
  if s.storeBusy then refused s .storeBusy
  else accepted { s with store := { s.store with valid := false, writing := some s.live } } []

/-- STORE_SETTINGS (R187). -/
def execStoreSettings (s : State) : Outcome State Fault Refusal :=
  takeRequest .facility 0x5A .storeSettings ownStoreSettings s

/-- The bank record after a pending bank write, if there is one, is made (R188). -/
def bankRecordAfter (pending record : Option BankRecord) : Option BankRecord :=
  match pending with
  | some b => some b
  | none => record

/-- The store write completes: the tunables stand, the valid mark is written, and any pending bank write is made and its
record removed in the same step (R187, R188). -/
def State.storeComplete (s : State) : State :=
  match s.store.writing with
  | none => s
  | some written =>
    { s with
      store := { stored := written, valid := true, bank := bankRecordAfter s.ret.pendingBank s.store.bank, writing := none }
      ret := { s.ret with pendingBank := none } }

/-- STORE_WRITE_COMPLETE (R187). -/
def execStoreWriteComplete (s : State) : Outcome State Fault Refusal := whileRunning State.storeComplete s

/-! ## Link rates and identity (R165, R171) -/

/-- FL's answer to SET_LINK_RATE (R165): the live divisor is set. The facility link's rate follows when this response has
been sent; the hatch link's at once when it has no frame in reception, is not sending and holds no request that is to be
answered at the old rate. -/
def ownSetLinkRate (link divisor : Byte) (s : State) : Answer :=
  match link.toNat with
  | 0 =>
    if s.storeBusy then refused s .storeBusy
    else accepted { s with live := { s.live with facilityDivisor := divisor } } [link, divisor]
  | 1 =>
    if s.storeBusy then refused s .storeBusy
    else accepted (State.settleHatchRate { s with live := { s.live with hatchDivisor := divisor } }) [link, divisor]
  | _ => refused s .badParam

/-- SET_LINK_RATE (R165). -/
def execSetLinkRate (link divisor : Byte) (s : State) : Outcome State Fault Refusal :=
  takeRequest .facility 0x5B (.setLinkRate link divisor) (ownSetLinkRate link divisor) s

/-- The answer to IDENTIFY_PART: the part code 0x0318 and the revision 1 (R171). -/
def ownIdentifyPart (s : State) : Answer := accepted s (be16 0x0318 ++ [1])

/-- IDENTIFY_PART (R171). -/
def execIdentifyPart (s : State) : Outcome State Fault Refusal :=
  takeRequest .facility 0x5F .identifyPart ownIdentifyPart s

end Sys2Proof.Machine
end

