-- ==== Sys2Proof/Machine/StartUp.lean ====
section
/-! DEFINITION. The RESET pin, the loss of power and of retained memory, and start-up (R27, R28, R172, R183, R187 to R190). -/

namespace Sys2Proof.Machine

open Host

/-- A number whose bits are new where a choice says so and old elsewhere. -/
def mixBits {w : Nat} (isNew : Fin w → Bool) (old new : BitVec w) : BitVec w :=
  BitVec.ofFnLE fun i => if isNew i then new[i] else old[i]

/-- One zone's stored values after a cut store write. -/
def ZoneSettings.torn (isNew : StoredValue → Bool) (z : Zone) (old new : ZoneSettings) : ZoneSettings :=
  let climate (i : Fin 9) := if isNew (.climate z i) then new.climate else old.climate
  let trim (i : Fin 2) := if isNew (.trim z i) then new.trims else old.trims
  let loop (i : Fin 5) := if isNew (.loop z i) then new.loop else old.loop
  let release (i : Fin 3) := if isNew (.release z i) then new.release else old.release
  { startMode := if isNew (.startMode z) then new.startMode else old.startMode
    climate :=
      { period := (climate 0).period, staleLimit := (climate 1).staleLimit, rhTarget := (climate 2).rhTarget
        rhBand := (climate 3).rhBand, tTarget := (climate 4).tTarget, tBand := (climate 5).tBand
        recovery := (climate 6).recovery, alert := (climate 7).alert, exposure := (climate 8).exposure }
    trims := { t := (trim 0).t, h := (trim 1).h }
    loop :=
      { openMax := (loop 0).openMax, normalMax := (loop 1).normalMax, alarmMax := (loop 2).alarmMax
        policy := (loop 3).policy, capture := (loop 4).capture }
    release :=
      { enabled := (release 0).enabled, heatAbs := (release 1).heatAbs, heatRise := (release 2).heatRise } }

/-- The stored tunables after a cut store write: each value the new one where it had been written, and the old one elsewhere
(R187). -/
def Tunables.torn (isNew : StoredValue → Bool) (old new : Tunables) : Tunables :=
  let time (i : Fin 3) := if isNew (.releaseTime i) then new.release else old.release
  let coefficient (i : Fin 3) := if isNew (.coefficient i) then new.conditioning else old.conditioning
  let timer (i : Fin 3) := if isNew (.timer i) then new.timers else old.timers
  { zones := PerZone.tabulate fun z => (old.zones.get z).torn isNew z (new.zones.get z)
    release := { window := (time 0).window, countdown := (time 1).countdown, pulse := (time 2).pulse }
    conditioning := { kT := (coefficient 0).kT, kH := (coefficient 1).kH, base := (coefficient 2).base }
    timers := { handover := (timer 0).handover, release := (timer 1).release, openLimit := (timer 2).openLimit }
    classLimits := Vector.ofFn fun c => if isNew (.classLimit c) then new.classLimits[c] else old.classLimits[c]
    enables := mixBits (fun i => isNew (.enable i)) old.enables new.enables
    inputs := Vector.ofFn fun n => if isNew (.input n) then new.inputs[n] else old.inputs[n]
    expected := mixBits (fun n => isNew (.expected n)) old.expected new.expected
    outputs := Vector.ofFn fun n => if isNew (.output n) then new.outputs[n] else old.outputs[n]
    hostLevels := mixBits (fun n => isNew (.hostLevel n)) old.hostLevels new.hostLevels
    facilityDivisor := if isNew (.divisor .facility) then new.facilityDivisor else old.facilityDivisor
    hatchDivisor := if isNew (.divisor .hatch) then new.hatchDivisor else old.hatchDivisor }

/-- A store write that a reset or a loss of power cuts short leaves no valid mark, and stored tunables that are partly old and
partly new: which of them is a free value (R187). Log entry 8. -/
def State.cutStoreWrite (s : State) : State :=
  match s.store.writing with
  | some written =>
    { s with
      store :=
        { s.store with
          stored := s.store.stored.torn (Config.tornTakesNew s.freeIndex) written, valid := false, writing := none }
      freeIndex := s.freeIndex + 1 }
  | none => s

/-- The links when the part stops: a frame in reception is lost without a flag, and a TAKEN request with its response
(R172). -/
def State.cutLinks (s : State) : State :=
  { s with
    fl := { s.fl with rx := .hunting, gapLeft := 0, request := .waiting, rateHeld := false }
    hl := { s.hl with rx := .hunting, gapLeft := 0, request := .waiting, rateHeld := false } }

/-- The part stops in a phase: its store write and its links are cut. Live state means nothing until start-up rebuilds
it. Log entry 22. -/
def State.stop (s : State) (phase : Phase) : State := { s.cutStoreWrite.cutLinks with phase := phase }

/-- RESET_ASSERT (R172, R183, R187, R190): the RESET pin is driven low while the part has power. -/
def execResetAssert (s : State) : Outcome State Fault Refusal :=
  match s.phase with
  | .running => .next (s.stop .inReset)
  | .starting _ => .next (s.stop .inReset)
  | .inReset => .next s
  | .unpowered => .next s

/-- POWER_LOSS (R27, R172, R187): main power is lost. Retained memory stands as last written. -/
def execPowerLoss (s : State) : Outcome State Fault Refusal :=
  if s.phase = .unpowered then .next s else .next (s.stop .unpowered)

/-- BACKUP_BELOW_RETENTION (R189): while main power is absent, the backup monitor records the fall of the backup supply.
What retained memory then holds is not read again: the start-up of the power-on sets it. Log entry 13. -/
def execBackupBelowRetention (s : State) : Outcome State Fault Refusal :=
  if s.phase = .unpowered then .next { s with monitorFell := true } else .next s

/-! ## Start-up (R190) -/

/-- Retained memory after the retained check and the bank write of start-up (R188, R189). -/
def Retained.atStart (r : Retained) (lost : Bool) : Retained :=
  { (if lost then Retained.afterLoss else r) with pendingBank := none }

/-- The bank record after start-up has made a pending bank write (R188). -/
def State.bankRecordAtStart (s : State) (lost : Bool) : Option BankRecord :=
  match (if lost then none else s.ret.pendingBank) with
  | some b => some b
  | none => s.store.bank

/-- The live tunables that start-up loads: the stored ones under a valid mark, the factory ones without (R186). -/
def Store.loaded (x : Store) : Tunables := if x.valid then x.stored else Tunables.factory

/-- The part as start-up rebuilds it before the sweep: retained memory and the bank record read, the tunables loaded, and
every block as R190's table says. The site clock's second that was under way goes on, after a loss of retained memory too: there
the spec does not say when the first second ends, and that it stands as it was is a DESIGN CHOICE (R185; log entry 29). -/
def State.rebuilt (s : State) (lost : Bool) : State :=
  let live := s.store.loaded
  { phase := .starting lost
    monitorFell := s.monitorFell
    ret := s.ret.atStart lost
    store := { s.store with bank := s.bankRecordAtStart lost }
    live := live
    zones := PerZone.tabulate fun z => ZoneState.atStart (live.zones.get z).startMode
    bank := Bank.ofRecord (s.bankRecordAtStart lost)
    manifest := none
    hatch := .idle
    handoverTimer := none
    releaseTimer := none
    opening := none
    levels := s.levels
    flags := s.flags
    fl := Link.atStart live.facilityDivisor
    hl := Link.atStart live.hatchDivisor
    secondLeft := s.secondLeft
    minuteLeft := 60000
    hourLeft := 3600000
    freeIndex := s.freeIndex
    pending := s.pending }

/-- The start-up sweep: every STAGED record is reverted under the retained climate states and fire states of QUIET (R28). -/
def State.sweep (s : State) : State := s.setRecords (s.ret.records.map s.reverted)

/-- Start-up, as far as it reads memory: the retained check, the bank write and read, the loading of the tunables, the
sweep and the start modes (R190). -/
def State.startUp (s : State) (lost : Bool) : State := (s.rebuilt lost).sweep

/-- START_UP (R190): at power-on the backup monitor is consulted; at the release of the RESET pin retained memory is taken
as kept (R189). -/
def execStartUp (s : State) : Outcome State Fault Refusal :=
  match s.phase with
  | .unpowered => .next (s.startUp s.monitorFell)
  | .inReset => .next (s.startUp false)
  | .running => .next s
  | .starting _ => .next s

/-- The flags as start-up completes: RESTARTED, RETAINED_LOST when retained memory was found lost, and INPUT_CHANGE when a
NONE line is in mismatch (R179, R182, R190). -/
def State.startFlags (s : State) (lost : Bool) : State :=
  ((State.raise { s with flags := 0 } .restarted).raiseIf lost .retainedLost).raiseIf (allLines.any s.mismatch) .inputChange

/-- Start-up completes, before the first samples: the debounced levels are taken from the pins, a door that is open begins
an opening untested for HATCH_FORCED, the ticks are counted from now, and the flags are set (R62, R181, R185, R190). -/
def State.enterService (s : State) (lost : Bool) (pins : BitVec 12) : State :=
  let t := { s with phase := .running, monitorFell := false, levels := pins, minuteLeft := 60000, hourLeft := 3600000 }
  State.startFlags { t with opening := if t.doorOpen then some t.newOpening else none } lost

/-- The first samples: the seven climate channels and then the seven loops (R94, R127). Log entry 16. -/
def State.firstSamples (s : State) (climate : PerZone RawCounts) (loops : PerZone (BitVec 12)) : State :=
  let t := Zone.all.foldl (fun s z => s.sampleClimate z (climate.get z)) s
  Zone.all.foldl (fun s z => s.sampleLoop z (loops.get z)) t

/-- START_UP_COMPLETE (R190). -/
def execStartUpComplete (pins : BitVec 12) (climate : PerZone RawCounts) (loops : PerZone (BitVec 12)) (s : State) :
    Outcome State Fault Refusal :=
  match s.phase with
  | .starting lost => .next ((s.enterService lost pins).firstSamples climate loops)
  | .running => .next s
  | .inReset => .next s
  | .unpowered => .next s

end Sys2Proof.Machine
end

