-- ==== Sys2Proof/Machine/Timers.lean ====
section
/-! DEFINITION. The expiries of HU's timers (R54, R64, R73, R74) and the passing of time. -/

namespace Sys2Proof.Machine

open Host

/-! ## Expiries -/

/-- The handover timer expires: an OFFERED or ACTIVE manifest closes with TIMEOUT and COURIER_MISSED; otherwise the
identification lapses and the link becomes IDLE. The timer stops (R54, R74). An expiry that finds the timer restarted, by a
request taken before it, is gone (R92), as one that finds it stopped. -/
def State.handoverExpiry (s : State) : State :=
  match s.handoverTimer with
  | none => s
  | some (_ + 1) => s
  | some 0 =>
    match s.manifest with
    | some m =>
      if m.stage = .offered ∨ m.stage = .active then (s.closeWith m .timeout).raise .courierMissed
      else { s with hatch := .idle, handoverTimer := none }
    | none => { s with hatch := .idle, handoverTimer := none }

/-- HANDOVER_TIMER_EXPIRY (R54). -/
def execHandoverTimerExpiry (s : State) : Outcome State Fault Refusal := whileRunning State.handoverExpiry s

/-- The release timer expires: the CLOSED manifest becomes FREE and FACILITY_MISSED is raised (R73). A timer stopped, or
started again by a later closure, does not. -/
def State.releaseExpiry (s : State) : State :=
  match s.releaseTimer with
  | none => s
  | some (_ + 1) => s
  | some 0 => State.raise { s with manifest := none, releaseTimer := none } .facilityMissed

/-- RELEASE_TIMER_EXPIRY (R73). -/
def execReleaseTimerExpiry (s : State) : Outcome State Fault Refusal := whileRunning State.releaseExpiry s

/-- An opening has lasted as long as the hatch open limit: HATCH_HELD is raised once for it (R64). A later opening is timed
afresh. -/
def State.openLimitReached (s : State) : State :=
  match s.opening with
  | some o => if o.held ∨ o.left ≠ 0 then s else State.raise { s with opening := some { left := 0, held := true } } .hatchHeld
  | none => s

/-- HATCH_OPEN_LIMIT_REACHED (R64). -/
def execHatchOpenLimitReached (s : State) : Outcome State Fault Refusal := whileRunning State.openLimitReached s

/-! ## The passing of time

One idle step is one millisecond in which no command is taken (log entry 3). Every timer that runs counts down and stands
at 0 until the command of its expiry, its sample or its tick is taken. -/

/-- A fire state's timer after a millisecond: a held countdown does not run (R153). -/
def FireState.pass : FireState → FireState
  | .prealarm left => .prealarm (left - 1)
  | .countdown left false => .countdown (left - 1) false
  | f => f

/-- A zone's timers after a millisecond. -/
def ZoneState.pass (v : ZoneState) : ZoneState :=
  { v with fire := v.fire.pass, sampleLeft := v.sampleLeft - 1, loopLeft := v.loopLeft - 1 }

/-- The release pulse after a millisecond. -/
def Bank.pass : Bank → Bank
  | .committed z left => .committed z (left - 1)
  | b => b

/-- The opening's timing after a millisecond. -/
def Opening.pass (o : Opening) : Opening := { o with left := o.left - 1 }

/-- A link's gap timer after a millisecond. -/
def Link.pass (l : Link) : Link := { l with gapLeft := l.gapLeft - 1 }

/-- A running timer after a millisecond. -/
def passTimer (t : Option Nat) : Option Nat := t.map fun left => left - 1

/-- A millisecond passes in which no command is taken. The site clock's second runs on in every phase; every other timer
runs only while the part is running. -/
def State.idle (s : State) : State :=
  let t := { s with secondLeft := s.secondLeft - 1 }
  if s.phase = .running then
    { t with
      zones := PerZone.tabulate fun z => (s.zones.get z).pass
      bank := s.bank.pass
      handoverTimer := passTimer s.handoverTimer
      releaseTimer := passTimer s.releaseTimer
      opening := s.opening.map Opening.pass
      fl := s.fl.pass
      hl := s.hl.pass
      minuteLeft := s.minuteLeft - 1
      hourLeft := s.hourLeft - 1 }
  else t

end Sys2Proof.Machine
end

