-- ==== Sys2Proof/Machine/Zones.lean ====
section
/-! DEFINITION. Zone control: the zone modes, the boundaries, the start modes and the zone report (R33 to R47). -/

namespace Sys2Proof.Machine

open Host

/-- The loop after its zone's entry into OFFLINE: counter, run, recovery ready and fault flags cleared; SOUND unless it is
ISOLATED, which stays (R42). -/
def Loop.clearedOffline (l : Loop) : Loop :=
  { l with
    state := if l.state = .isolated then .isolated else .sound
    trouble := 0
    run := 0
    ready := false
    flags := { openSeen := false, shortSeen := false, alarmSeen := false } }

/-- A change of a zone's mode: entry into OFFLINE clears its loop in the same step, and a request for the mode the zone
already has changes nothing (R41 to R43). -/
def State.changeMode (s : State) (z : Zone) (m : ZoneMode) : State :=
  if s.mode z = m then s
  else
    let v := s.zones.get z
    s.setZone z { v with mode := m, loop := if m = .offline then v.loop.clearedOffline else v.loop }

/-- ZN's answer to SET_ZONE_MODE (R41). -/
def ownSetZoneMode (zone mode : Byte) (s : State) : Answer :=
  match zoneOf zone, modeOf mode with
  | some z, some m =>
    if m = .offline ∧ (s.fire z).isCountdown = true ∧ s.mode z ≠ .offline then refused s .zoneFire
    else accepted (s.changeMode z m) [byteOf z.number, byteOf m.number]
  | _, _ => refused s .badParam

/-- SET_ZONE_MODE (R41). -/
def execSetZoneMode (zone mode : Byte) (s : State) : Outcome State Fault Refusal :=
  takeRequest .facility 0x30 (.setZoneMode zone mode) (ownSetZoneMode zone mode) s

/-- The unit changes zone when Bk moves from old to new (R34). -/
def unitMoves (old new unit : Nat) : Bool :=
  (decide (old < unit) && decide (unit ≤ new)) || (decide (new < unit) && decide (unit ≤ old))

/-- Some slot of a unit that would change zone is bound (R33, R34). -/
def State.movedBound (s : State) (old new : Nat) : Bool :=
  s.ret.records.any fun r =>
    match r.home with
    | some h => unitMoves old new (unitOf h)
    | none => false

/-- The five boundaries in one byte each. -/
def Bounds.bytes (b : Bounds) : List Byte := [byteOf b.b1, byteOf b.b2, byteOf b.b3, byteOf b.b4, byteOf b.b5]

/-- CT's answer to SET_BOUNDARY (R33, R34). -/
def ownSetBoundary (boundary value : Byte) (s : State) : Answer :=
  let k := boundary.toNat
  let v := value.toNat
  let b := s.ret.bounds
  match Zone.ofNumber k, Zone.ofNumber (k + 1) with
  | some lower, some upper =>
    if 5 < k ∨ 23 < v then refused s .badParam
    else if v < b.get (k - 1) ∨ b.get (k + 1) < v then refused s .order
    else if s.mode lower ≠ .offline ∨ s.mode upper ≠ .offline then refused s .zoneMode
    else if s.movedBound (b.get k) v then refused s .slotsBound
    else accepted { s with ret := { s.ret with bounds := b.set k v } } (b.set k v).bytes
  | _, _ => refused s .badParam

/-- SET_BOUNDARY (R33, R34). -/
def execSetBoundary (boundary value : Byte) (s : State) : Outcome State Fault Refusal :=
  takeRequest .facility 0x31 (.setBoundary boundary value) (ownSetBoundary boundary value) s

/-- ZN's answer to READ_ZONE (R47). -/
def ownReadZone (zone : Byte) (s : State) : Answer :=
  match zoneOf zone with
  | none => refused s .badParam
  | some z => accepted s (s.zoneReport z)

/-- READ_ZONE (R47, R108, R143, R163). -/
def execReadZone (zone : Byte) (s : State) : Outcome State Fault Refusal :=
  takeRequest .facility 0x33 (.readZone zone) (ownReadZone zone) s

/-- ZN's answer to SET_START_MODE (R46). -/
def ownSetStartMode (zone mode : Byte) (s : State) : Answer :=
  match zoneOf zone, modeOf mode with
  | some z, some m =>
    if s.storeBusy then refused s .storeBusy
    else accepted (s.setSettings z { s.settings z with startMode := m }) [byteOf z.number, byteOf m.number]
  | _, _ => refused s .badParam

/-- SET_START_MODE (R46). -/
def execSetStartMode (zone mode : Byte) (s : State) : Outcome State Fault Refusal :=
  takeRequest .facility 0x36 (.setStartMode zone mode) (ownSetStartMode zone mode) s

end Sys2Proof.Machine
end

