-- ==== Sys2Proof/Machine/Dispatch.lean ====
section
/-! DEFINITION. The dispatch of a command to its meaning: one arm for each constructor of Instr. -/

namespace Sys2Proof.Machine

open Host

def exec (i : Instr) (s : State) : Host.Outcome State Fault Refusal :=
  match i with
  | .enroll label cls slot => Sys2Proof.Machine.execEnroll label cls slot s
  | .lookup label => Sys2Proof.Machine.execLookup label s
  | .slotQuery slot => Sys2Proof.Machine.execSlotQuery slot s
  | .nextLabel label => Sys2Proof.Machine.execNextLabel label s
  | .place label slot => Sys2Proof.Machine.execPlace label slot s
  | .relocate label slot => Sys2Proof.Machine.execRelocate label slot s
  | .unbind label => Sys2Proof.Machine.execUnbind label s
  | .retire label => Sys2Proof.Machine.execRetire label s
  | .clearMark label mark => Sys2Proof.Machine.execClearMark label mark s
  | .setClass label cls => Sys2Proof.Machine.execSetClass label cls s
  | .extendDue label hours => Sys2Proof.Machine.execExtendDue label hours s
  | .openManifest direction courier consignment dueHours => Sys2Proof.Machine.execOpenManifest direction courier consignment dueHours s
  | .addItem label => Sys2Proof.Machine.execAddItem label s
  | .dropItem label => Sys2Proof.Machine.execDropItem label s
  | .offerManifest => Sys2Proof.Machine.execOfferManifest s
  | .cancelManifest => Sys2Proof.Machine.execCancelManifest s
  | .readManifest => Sys2Proof.Machine.execReadManifest s
  | .releaseManifest => Sys2Proof.Machine.execReleaseManifest s
  | .enrolCourier entry badge code => Sys2Proof.Machine.execEnrolCourier entry badge code s
  | .revokeCourier entry => Sys2Proof.Machine.execRevokeCourier entry s
  | .unlockCourier entry => Sys2Proof.Machine.execUnlockCourier entry s
  | .readCourier entry => Sys2Proof.Machine.execReadCourier entry s
  | .setZoneMode zone mode => Sys2Proof.Machine.execSetZoneMode zone mode s
  | .setBoundary boundary value => Sys2Proof.Machine.execSetBoundary boundary value s
  | .setClimate zone period staleLimit rhTarget rhBand tTarget tBand recovery alert exposure => Sys2Proof.Machine.execSetClimate zone period staleLimit rhTarget rhBand tTarget tBand recovery alert exposure s
  | .readZone zone => Sys2Proof.Machine.execReadZone zone s
  | .resetDose zone => Sys2Proof.Machine.execResetDose zone s
  | .setTrim zone trimT trimH => Sys2Proof.Machine.execSetTrim zone trimT trimH s
  | .setStartMode zone mode => Sys2Proof.Machine.execSetStartMode zone mode s
  | .setConditioning kT kH base => Sys2Proof.Machine.execSetConditioning kT kH base s
  | .readConditioning => Sys2Proof.Machine.execReadConditioning s
  | .setLoop loop openMax normalMax alarmMax policy capture => Sys2Proof.Machine.execSetLoop loop openMax normalMax alarmMax policy capture s
  | .loopReturn loop => Sys2Proof.Machine.execLoopReturn loop s
  | .clearLoopFlags loop openSeen shortSeen alarmSeen => Sys2Proof.Machine.execClearLoopFlags loop openSeen shortSeen alarmSeen s
  | .abortRelease zone => Sys2Proof.Machine.execAbortRelease zone s
  | .manualRelease zone => Sys2Proof.Machine.execManualRelease zone s
  | .resetAlarm zone => Sys2Proof.Machine.execResetAlarm zone s
  | .bankReloaded => Sys2Proof.Machine.execBankReloaded s
  | .setRelease scope b0 b1 b2 b3 => Sys2Proof.Machine.execSetRelease scope b0 b1 b2 b3 s
  | .status => Sys2Proof.Machine.execStatus s
  | .clearEvents choice => Sys2Proof.Machine.execClearEvents choice s
  | .setEventEnable enables => Sys2Proof.Machine.execSetEventEnable enables s
  | .setClock count => Sys2Proof.Machine.execSetClock count s
  | .readClock => Sys2Proof.Machine.execReadClock s
  | .setLine line level => Sys2Proof.Machine.execSetLine line level s
  | .setExpect levels => Sys2Proof.Machine.execSetExpect levels s
  | .setLineFunction direction line function zone => Sys2Proof.Machine.execSetLineFunction direction line function zone s
  | .setTimers handover release openLimit => Sys2Proof.Machine.execSetTimers handover release openLimit s
  | .setClassLimit cls limit => Sys2Proof.Machine.execSetClassLimit cls limit s
  | .storeSettings => Sys2Proof.Machine.execStoreSettings s
  | .setLinkRate link divisor => Sys2Proof.Machine.execSetLinkRate link divisor s
  | .identifyPart => Sys2Proof.Machine.execIdentifyPart s
  | .identify badge code => Sys2Proof.Machine.execIdentify badge code s
  | .declare consignment caseT caseH => Sys2Proof.Machine.execDeclare consignment caseT caseH s
  | .deposit label => Sys2Proof.Machine.execDeposit label s
  | .accept label => Sys2Proof.Machine.execAccept label s
  | .decline label => Sys2Proof.Machine.execDecline label s
  | .view => Sys2Proof.Machine.execView s
  | .finish => Sys2Proof.Machine.execFinish s
  | .leave => Sys2Proof.Machine.execLeave s
  | .hatchStatus => Sys2Proof.Machine.execHatchStatus s
  | .unknownRequest link code params => Sys2Proof.Machine.execUnknownRequest link code params s
  | .frameDiscard link => Sys2Proof.Machine.execFrameDiscard link s
  | .frameGapTimeout link => Sys2Proof.Machine.execFrameGapTimeout link s
  | .responseSent link => Sys2Proof.Machine.execResponseSent link s
  | .handoverTimerExpiry => Sys2Proof.Machine.execHandoverTimerExpiry s
  | .releaseTimerExpiry => Sys2Proof.Machine.execReleaseTimerExpiry s
  | .hatchOpenLimitReached => Sys2Proof.Machine.execHatchOpenLimitReached s
  | .verificationWindowExpiry zone => Sys2Proof.Machine.execVerificationWindowExpiry zone s
  | .countdownExpiry zone => Sys2Proof.Machine.execCountdownExpiry zone s
  | .releasePulseEnd => Sys2Proof.Machine.execReleasePulseEnd s
  | .climateSample zone counts => Sys2Proof.Machine.execClimateSample zone counts s
  | .loopSample loop count => Sys2Proof.Machine.execLoopSample loop count s
  | .elapsedMinuteTick => Sys2Proof.Machine.execElapsedMinuteTick s
  | .elapsedHourTick => Sys2Proof.Machine.execElapsedHourTick s
  | .siteClockSecond => Sys2Proof.Machine.execSiteClockSecond s
  | .storeWriteComplete => Sys2Proof.Machine.execStoreWriteComplete s
  | .inputLineChange line level => Sys2Proof.Machine.execInputLineChange line level s
  | .resetAssert => Sys2Proof.Machine.execResetAssert s
  | .powerLoss => Sys2Proof.Machine.execPowerLoss s
  | .startUp => Sys2Proof.Machine.execStartUp s
  | .startUpComplete pins climate loops => Sys2Proof.Machine.execStartUpComplete pins climate loops s
  | .backupBelowRetention => Sys2Proof.Machine.execBackupBelowRetention s
  | .characterReceived link char stopOk => Sys2Proof.Machine.execCharacterReceived link char stopOk s

end Sys2Proof.Machine
end

