-- ==== Sys2Proof/Safety.lean ====
section
/-! DEFINITION. What the claims speak of: the answer to a request and the order of its tests, when a zone is custody-open, and
what holds of the part in every step of every run (the invariant), one law for each chapter. -/

namespace Sys2Proof.Machine

/-! ## Answers and tests -/

/-- The state once a request has been answered: its link sends the response, with the request's code plus 0x80 (R170). -/
def State.answered (t : State) (k : LinkId) (code : Byte) (status : Status) (results : List Byte) : State :=
  t.reply k { code := code + 0x80, status := status, results := results }

/-- The refusal of the first condition that fails, in the order of a rule's list; none when all pass. A condition is given
as "it fails" with its refusal. -/
def firstFailing : List (Bool × Status) → Option Status
  | [] => none
  | (fails, status) :: rest => if fails then some status else firstFailing rest

/-- The answer of a request with an ordered list of conditions: refused by the first that fails, with the state as it was;
otherwise accepted, with the changed state and its results. -/
def judged (s : State) (k : LinkId) (code : Byte) (tests : List (Bool × Status)) (changed : State) (results : List Byte) :
    Host.Outcome State Fault Refusal :=
  match firstFailing tests with
  | some status => .next (s.answered k code status [])
  | none => .next (changed.answered k code .ok results)

/-- A request reaches its owner block (R167, R168): the part is running, and either its link holds it TAKEN, or the link is
WAITING with no frame in reception, and the command is the arrival of its whole frame (log entry 1). -/
abbrev State.takes (s : State) (k : LinkId) (c : Instr) : Prop :=
  s.phase = .running ∧ ((s.link k).request = .taken c ∨ ((s.link k).request = .waiting ∧ (s.link k).rx = .hunting))

/-- A facility request that names a record: BAD_PARAM for a malformed label, NOT_FOUND for one not in the table, and
otherwise what the request makes of the record (section 1.4). -/
def onRecord (s : State) (code : Byte) (label : Label) (f : Record → Host.Outcome State Fault Refusal) :
    Host.Outcome State Fault Refusal :=
  if labelOk label = false then .next (s.answered .facility code .badParam [])
  else
    match s.find label with
    | none => .next (s.answered .facility code .notFound [])
    | some r => f r

/-- The zone is custody-open (R7). -/
def State.custodyOpen (s : State) (z : Zone) : Bool := decide (s.mode z = .online) && (s.fire z).isOpen

/-- Custody gating at one zone, as two conditions in their order: the mode, then the fire state (R7). -/
def State.gateTests (s : State) (z : Zone) : List (Bool × Status) :=
  [(decide (s.mode z ≠ .online), .zoneMode), (!(s.fire z).isOpen, .zoneFire)]

/-- The zone is in climate state EXCURSION (R103). -/
def State.inExcursion (s : State) (z : Zone) : Bool := decide (s.climate z = .excursion)

/-- A field of a result: the number in so many bytes at an offset, the most significant byte first (R173). -/
def fieldAt (bytes : List Byte) (offset width : Nat) : Nat :=
  ((bytes.drop offset).take width).foldl (fun n b => 256 * n + b.toNat) 0

/-- A result layout: each field of a table (offset, bytes, value) holds its value at its width, and so the value itself
while it is in the field's range. -/
def laidOut (bytes : List Byte) (table : List (Nat × Nat × Nat)) : Prop :=
  ∀ f ∈ table, fieldAt bytes f.1 f.2.1 = f.2.2 % 256 ^ f.2.1

/-- A signed number as its field carries it, two's complement (R173). -/
def signedField (width : Nat) (i : Int) : Nat := (BitVec.ofInt (8 * width) i).toNat

/-- A yes or no as its field carries it (R173). -/
def flagField (b : Bool) : Nat := if b then 1 else 0

/-- The parameters of a request as its frame carries them, in the order and at the widths of its rule (R166, R173); an event
has none. DECLARE's presence byte has bit 0 for the temperature and bit 1 for the humidity, an absent value sent as 0. -/
def paramBytes : Instr → List Byte
  | .enroll label cls slot => label.toList ++ [cls] ++ be16 slot.toNat
  | .lookup label | .nextLabel label | .unbind label | .retire label | .addItem label | .dropItem label | .deposit label
  | .accept label | .decline label => label.toList
  | .slotQuery slot => be16 slot.toNat
  | .place label slot | .relocate label slot => label.toList ++ be16 slot.toNat
  | .clearMark label mark => label.toList ++ [mark]
  | .setClass label cls => label.toList ++ [cls]
  | .extendDue label hours => label.toList ++ be16 hours.toNat
  | .openManifest direction courier consignment due => [direction, courier] ++ be16 consignment.toNat ++ be16 due.toNat
  | .enrolCourier entry badge code => [entry] ++ be24 badge.toNat ++ code.toList
  | .revokeCourier n | .unlockCourier n | .readCourier n | .readZone n | .resetDose n | .loopReturn n | .abortRelease n
  | .manualRelease n | .resetAlarm n => [n]
  | .setZoneMode a b | .setBoundary a b | .setStartMode a b | .setLinkRate a b => [a, b]
  | .setClimate zone period stale rh rhBand t tBand recovery alert exposure =>
    [zone, period, stale] ++ be16 rh.toNat ++ [rhBand] ++ be16 t.toNat ++ [tBand, recovery] ++ be24 alert.toNat
      ++ be24 exposure.toNat
  | .setTrim a b c | .setConditioning a b c => [a, b, c]
  | .setLoop loop o n a policy capture =>
    [loop] ++ be16 o.toNat ++ be16 n.toNat ++ be16 a.toNat ++ [policy, capture]
  | .clearLoopFlags loop o h a => [loop, yesNo o, yesNo h, yesNo a]
  | .setRelease scope b0 b1 b2 b3 => [scope, b0, b1, b2, b3]
  | .clearEvents choice => be24 choice.toNat
  | .setEventEnable enables => be24 enables.toNat
  | .setClock count => be32 count.toNat
  | .setLine line level => [line, yesNo level]
  | .setExpect levels => be16 levels.toNat
  | .setLineFunction direction line function zone => [direction, line, function, zone]
  | .setTimers handover release openLimit => be16 handover.toNat ++ be16 release.toNat ++ be16 openLimit.toNat
  | .setClassLimit cls limit => [cls] ++ be16 limit.toNat
  | .identify badge code => be24 badge.toNat ++ code.toList
  | .declare consignment caseT caseH =>
    be16 consignment.toNat ++ [yesNo caseT.isSome + 2 * yesNo caseH.isSome] ++ be16 (caseT.getD 0).toNat
      ++ be16 (caseH.getD 0).toNat
  | .offerManifest | .cancelManifest | .readManifest | .releaseManifest | .readConditioning | .bankReloaded | .status
  | .readClock | .storeSettings | .identifyPart | .view | .finish | .leave | .hatchStatus => []
  | .unknownRequest _ _ _ | .frameDiscard _ | .frameGapTimeout _ | .responseSent _ | .handoverTimerExpiry
  | .releaseTimerExpiry | .hatchOpenLimitReached | .verificationWindowExpiry _ | .countdownExpiry _ | .releasePulseEnd
  | .climateSample _ _ | .loopSample _ _ | .elapsedMinuteTick | .elapsedHourTick | .siteClockSecond | .storeWriteComplete
  | .inputLineChange _ _ | .resetAssert | .powerLoss | .startUp | .startUpComplete _ _ _ | .backupBelowRetention
  | .characterReceived _ _ _ => []

/-- A value is one of two. -/
abbrev oneOf {α : Type} (x old new : α) : Prop := x = old ∨ x = new

/-- One zone's settings, each of them the old one or the new one. -/
def ZoneSettings.mixOf (x old new : ZoneSettings) : Prop :=
  oneOf x.startMode old.startMode new.startMode ∧
  (oneOf x.climate.period old.climate.period new.climate.period ∧
  oneOf x.climate.staleLimit old.climate.staleLimit new.climate.staleLimit ∧
  oneOf x.climate.rhTarget old.climate.rhTarget new.climate.rhTarget ∧
  oneOf x.climate.rhBand old.climate.rhBand new.climate.rhBand ∧
  oneOf x.climate.tTarget old.climate.tTarget new.climate.tTarget ∧
  oneOf x.climate.tBand old.climate.tBand new.climate.tBand ∧
  oneOf x.climate.recovery old.climate.recovery new.climate.recovery ∧
  oneOf x.climate.alert old.climate.alert new.climate.alert ∧
  oneOf x.climate.exposure old.climate.exposure new.climate.exposure) ∧
  (oneOf x.trims.t old.trims.t new.trims.t ∧ oneOf x.trims.h old.trims.h new.trims.h) ∧
  (oneOf x.loop.openMax old.loop.openMax new.loop.openMax ∧ oneOf x.loop.normalMax old.loop.normalMax new.loop.normalMax ∧
  oneOf x.loop.alarmMax old.loop.alarmMax new.loop.alarmMax ∧ oneOf x.loop.policy old.loop.policy new.loop.policy ∧
  oneOf x.loop.capture old.loop.capture new.loop.capture) ∧
  oneOf x.release.enabled old.release.enabled new.release.enabled ∧
  oneOf x.release.heatAbs old.release.heatAbs new.release.heatAbs ∧
  oneOf x.release.heatRise old.release.heatRise new.release.heatRise

/-- Tunables partly old and partly new: each of R186's values is the old one or the new one (R187). The enables, the expected
levels and the host levels are so bit by bit. -/
def Tunables.mixOf (x old new : Tunables) : Prop :=
  (∀ z, (x.zones.get z).mixOf (old.zones.get z) (new.zones.get z)) ∧
  (oneOf x.release.window old.release.window new.release.window ∧
  oneOf x.release.countdown old.release.countdown new.release.countdown ∧
  oneOf x.release.pulse old.release.pulse new.release.pulse) ∧
  (oneOf x.conditioning.kT old.conditioning.kT new.conditioning.kT ∧
  oneOf x.conditioning.kH old.conditioning.kH new.conditioning.kH ∧
  oneOf x.conditioning.base old.conditioning.base new.conditioning.base) ∧
  (oneOf x.timers.handover old.timers.handover new.timers.handover ∧
  oneOf x.timers.release old.timers.release new.timers.release ∧
  oneOf x.timers.openLimit old.timers.openLimit new.timers.openLimit) ∧
  (∀ c : Fin 8, oneOf x.classLimits[c] old.classLimits[c] new.classLimits[c]) ∧
  (∀ i, oneOf (x.enables.getLsbD i) (old.enables.getLsbD i) (new.enables.getLsbD i)) ∧
  (∀ n : Fin 12, oneOf x.inputs[n] old.inputs[n] new.inputs[n] ∧ oneOf x.outputs[n] old.outputs[n] new.outputs[n]) ∧
  (∀ i, oneOf (x.expected.getLsbD i) (old.expected.getLsbD i) (new.expected.getLsbD i) ∧
    oneOf (x.hostLevels.getLsbD i) (old.hostLevels.getLsbD i) (new.hostLevels.getLsbD i)) ∧
  oneOf x.facilityDivisor old.facilityDivisor new.facilityDivisor ∧ oneOf x.hatchDivisor old.hatchDivisor new.hatchDivisor

/-- The commands of a list taken one after the other, stopping at the first that is not answered with a next state. -/
def takeAll : List Instr → State → Host.Outcome State Fault Refusal
  | [], s => .next s
  | c :: rest, s =>
    match exec c s with
    | .next t => takeAll rest t
    | .fault r => .fault r
    | .refused r => .refused r

/-! ## The custody table (Chapter 1) -/

/-- A record by itself: a well-formed label, a count that fits, the home slot its state calls for, a hold or due hour in
range, and OVERDUE on OUT records only (section 1.1, R2, R21, R116). -/
def Record.wf (r : Record) : Bool :=
  labelOk r.label && decide (r.count ≤ 65535) && (!r.marks.overdue || r.isOut) &&
    match r.state with
    | .shelved => r.home.isSome
    | .staged => r.home.isSome
    | .out _ _ due => decide (due ≤ 16777215)
    | .conditioning hold => decide (1 ≤ hold) && decide (hold ≤ 720)
    | .ready => true
    | .unplaced => r.home.isNone

/-- The table: at most 2048 records, in strict label order, and no slot bound to two of them (R1 to R4). -/
abbrev State.tableWf (s : State) : Prop :=
  s.ret.records.length ≤ 2048 ∧
  (∀ r ∈ s.ret.records, r.wf = true) ∧
  s.ret.records.Pairwise (fun a b => labelBefore a.label b.label = true) ∧
  s.ret.records.Pairwise (fun a b => a.home = none ∨ a.home ≠ b.home)

/-- The boundaries stay in order (R30). -/
abbrev Bounds.wf (b : Bounds) : Prop := b.b1 ≤ b.b2 ∧ b.b2 ≤ b.b3 ∧ b.b3 ≤ b.b4 ∧ b.b4 ≤ b.b5 ∧ b.b5 ≤ 23

/-- The law of marks (R20): a record located in a zone in EXCURSION carries EXPOSED, and one located in a DISCHARGED zone
carries AGENT. -/
abbrev State.marksLaw (s : State) : Prop :=
  ∀ r ∈ s.ret.records, ∀ z ∈ Zone.all, s.location r = some z →
    (s.climate z = .excursion → r.marks.exposed = true) ∧ (s.fire z = .discharged → r.marks.agent = true)

/-! ## Couriers (Chapter 3) -/

/-- An enrolled entry: a badge, a code of six digits, and locked exactly at three failed attempts (R48, R56). -/
def Courier.wf (c : Courier) : Bool :=
  decide (c.badge ≠ 0) && decide (c.code ≤ 999999) && decide (c.attempts ≤ 3) && decide (c.locked = decide (c.attempts = 3))

/-- The courier is enrolled. -/
def State.enrolled (s : State) (e : Fin 16) : Bool := s.ret.couriers[e].isSome

/-- The courier table: no badge stands twice (R48). -/
abbrev State.couriersWf (s : State) : Prop :=
  (∀ e : Fin 16, s.ret.couriers[e].all Courier.wf = true) ∧
  ∀ e e' : Fin 16, e ≠ e' → s.enrolled e = true → s.ret.couriers[e].map Courier.badge ≠ s.ret.couriers[e'].map Courier.badge

/-! ## The manifest and the hatch (Chapters 3 and 4) -/

/-- A zone is in COUNTDOWN or DISCHARGED, and no handover can stand (R58, R79, R83, R88). -/
def State.fireForbidsHandover (s : State) : Bool := s.anyCountdownOrDischarged

/-- An item state that a route's items take (R67). -/
def ItemState.fits (r : Route) (x : ItemState) : Bool :=
  match r, x with
  | .outbound _, .listed => true
  | .outbound _, .accepted => true
  | .outbound _, .declined => true
  | .inbound _ _, .returned hold _ => decide (hold ≤ 720)
  | .inbound _ _, .conflict => true
  | .inbound _ _, .unknown => true
  | _, _ => false

/-- A route's due hours or case values are in their ranges (R66). -/
def Route.wf : Route → Bool
  | .outbound due => decide (1 ≤ due) && decide (due ≤ 8760)
  | .inbound t h => t.all (fun t => decide (-400 ≤ t) && decide (t ≤ 850)) && h.all fun h => decide (0 ≤ h) && decide (h ≤ 1000)

/-- The stages a route has: an inbound manifest is ACTIVE from its declaration (R66, R87). -/
def Route.hasStage (r : Route) (x : Stage) : Bool :=
  match r, x with
  | .inbound _ _, .building => false
  | .inbound _ _, .offered => false
  | _, _ => true

/-- A manifest by itself: at most 24 items, no label twice, states that fit the direction (R66 to R68). -/
abbrev Manifest.wf (m : Manifest) : Prop :=
  m.items.length ≤ 24 ∧ (m.items.map Item.label).Nodup ∧
  (m.items.all fun i => labelOk i.label && i.state.fits m.route) = true ∧ m.route.wf = true ∧ m.route.hasStage m.stage = true

/-- The manifest is OUTBOUND. -/
def Route.isOutbound : Route → Bool
  | .outbound _ => true
  | .inbound _ _ => false

/-- The items whose records are STAGED: those of an OUTBOUND manifest in BUILDING, OFFERED or ACTIVE (R70). -/
def State.stagedItems (s : State) : List Item :=
  match s.manifest with
  | some m => if m.route.isOutbound && m.stage.isOpen then m.items else []
  | none => []

/-- The record is STAGED. -/
def Record.isStaged (r : Record) : Bool := decide (r.state = .staged)

/-- Each listed label names a STAGED record, and each STAGED record is listed (R70). -/
abbrev State.stagedLaw (s : State) : Prop :=
  (∀ i ∈ s.stagedItems, (s.find i.label).any Record.isStaged = true) ∧
  ∀ r ∈ s.ret.records, r.isStaged = true → (findItem r.label s.stagedItems).isSome = true

/-- The manifest against the link, the couriers and the fire states (R49, R50, R58, R68, R76, R88): while ACTIVE its courier
is on the link; it and the courier on the link are enrolled; an OUTBOUND one has a valid clock; and none is OFFERED or
ACTIVE while a zone is in COUNTDOWN or DISCHARGED. -/
abbrev State.handoverLaw (s : State) : Prop :=
  (∀ m ∈ s.manifest.toList, m.wf ∧ s.enrolled m.courier = true ∧
    (m.stage = .active → s.hatch = .identified m.courier) ∧
    (m.route.isOutbound = true → s.ret.clockValid = true) ∧
    (m.stage = .offered ∨ m.stage = .active → s.fireForbidsHandover = false)) ∧
  ∀ e ∈ s.identified.toList, s.enrolled e = true

/-- HU's timers (R54, R73): the handover timer runs exactly while a handover or an identification is timed, the release
timer exactly while the manifest is CLOSED; and an opening is timed exactly while the door is open (R62). -/
abbrev State.timersLaw (s : State) : Prop :=
  (s.handoverTimer.isSome = (s.manifestOffered || s.manifestActive || s.identified.isSome)) ∧
  (s.releaseTimer.isSome = (s.manifest.any fun m => !m.stage.isOpen)) ∧
  (s.phase = .running → s.opening.isSome = s.doorOpen)

/-! ## Climate, loops and fire (Chapters 5, 7 and 8) -/

/-- A zone's dose and climate state: EXCURSION only above a dose of 0 (R101, R103). -/
def ClimateAccount.wf (a : ClimateAccount) : Bool :=
  decide (a.dose ≤ 16777215) && (!decide (a.state = .excursion) || decide (0 < a.dose))

/-- A zone's reading state (section 5.2): the ranges, and FRESH only with a reading and no fault since. -/
def Sensor.wf (x : Sensor) : Bool :=
  decide (x.staleCount ≤ 255) && decide (x.weight ≤ 3700) &&
    (x.reading.all fun r => decide (-400 ≤ r.t) && decide (r.t ≤ 1250) && decide (0 ≤ r.rh) && decide (r.rh ≤ 1000)) &&
    match x.status with
    | .fresh => x.reading.isSome && decide (x.staleCount = 0)
    | .stale => x.reading.isSome && decide (0 < x.staleCount)
    | .unknown => true

/-- A loop under its policy (R129, R130, R133, R135): the state follows the counter unless ISOLATED, with the counter then
at 255 or cleared to 0; a run only while ISOLATED; recovery ready only at a run of 64 under ON_REQUEST. -/
def Loop.wf (l : Loop) (policy : Policy) : Bool :=
  decide (l.trouble ≤ 255) && decide (l.run ≤ 64) &&
    (if l.state = .isolated then decide (l.trouble = 255) || decide (l.trouble = 0)
     else decide (l.state = stateOfTrouble l.trouble) && decide (l.run = 0) && !l.ready) &&
    (!l.ready || (decide (l.run = 64) && decide (policy = .onRequest)))

/-- A zone's fire state (R39, R145, R153): the timers are in their ranges, an OFFLINE zone is never in COUNTDOWN, and a
countdown is held exactly while the abort is asserted. -/
def FireState.wf (f : FireState) (mode : ZoneMode) (aborted : Bool) : Bool :=
  match f with
  | .prealarm left => decide (left ≤ 120000)
  | .countdown left held => decide (left ≤ 60000) && decide (mode ≠ .offline) && decide (held = aborted)
  | _ => true

/-- Every zone stands within its rules. -/
abbrev State.zonesWf (s : State) : Prop :=
  ∀ z ∈ Zone.all, (s.ret.climate.get z).wf = true ∧ (s.zones.get z).sensor.wf = true ∧
    (s.zones.get z).loop.wf (s.settings z).loop.policy = true ∧ (s.fire z).wf (s.mode z) s.abortAsserted = true

/-! ## The settings, the store and the bank (Chapters 8 and 11) -/

/-- A number lies in a range. -/
def within (lo hi n : Int) : Bool := decide (lo ≤ n) && decide (n ≤ hi)

/-- A zone's settings are in the ranges of sections 5.5, 7.5 and 8.6. -/
def ZoneSettings.wf (c : ZoneSettings) : Bool :=
  within 1 60 c.climate.period && within 1 20 c.climate.staleLimit && within 0 1000 c.climate.rhTarget &&
    within 0 200 c.climate.rhBand && within (-100) 400 c.climate.tTarget && within 0 100 c.climate.tBand &&
    within 0 255 c.climate.recovery && within 1 16777214 c.climate.alert &&
    within (c.climate.alert + 1) 16777215 c.climate.exposure && within (-50) 50 c.trims.t && within (-50) 50 c.trims.h &&
    decide (c.loop.openMax < c.loop.normalMax) && decide (c.loop.normalMax < c.loop.alarmMax) &&
    decide (c.loop.alarmMax ≤ 1023) && within 200 1000 c.release.heatAbs && within 5 200 c.release.heatRise

/-- Every tunable is in its range. -/
def Tunables.wf (x : Tunables) : Bool :=
  (Zone.all.all fun z => (x.zones.get z).wf) && within 10 120 x.release.window && within 10 60 x.release.countdown &&
    within 1 10 x.release.pulse && within 0 60 x.conditioning.kT && within 0 30 x.conditioning.kH &&
    within 0 120 x.conditioning.base && within 30 900 x.timers.handover && within 10 600 x.timers.release &&
    within 10 300 x.timers.openLimit && x.classLimits.all fun n => decide (n ≤ 65535)

/-- The settings (R186, R187): the live values are in range, so are stored ones that the valid mark vouches for, and a store
write is of the live values with the valid mark erased. -/
abbrev State.settingsWf (s : State) : Prop :=
  s.live.wf = true ∧ (s.store.valid = true → s.store.stored.wf = true ∧ s.store.writing = none) ∧
  (∀ w ∈ s.store.writing.toList, w = s.live ∧ s.phase = .running) ∧ s.ret.clock ≤ 4294967295

/-- The bank a start-up that keeps retained memory would begin with (R188). -/
def State.bankAfterStart (s : State) : Bank := Bank.ofRecord (s.bankRecordAtStart false)

/-- The live bank with a commitment taken as spent (R155). -/
def Bank.afterReset : Bank → Bank
  | .committed _ _ => .spent
  | b => b

/-- The part has power and its RESET pin is not held. -/
def State.started (s : State) : Bool :=
  match s.phase with
  | .running => true
  | .starting _ => true
  | _ => false

/-- The bank (R155, R156, R188): once start-up has read it, what is recorded of the bank brings the live bank back after a reset,
a COMMITTED one as SPENT; a pending bank write waits for a store write; and the committed zone is DISCHARGED. -/
abbrev State.bankLaw (s : State) : Prop :=
  (s.started = true → s.bankAfterStart = s.bank.afterReset ∧ (s.ret.pendingBank.isSome = true → s.storeBusy = true)) ∧
  ∀ z ∈ Zone.all, s.pulseZone = some z → s.fire z = .discharged

/-! ## Start-up (Chapter 11) -/

/-- Start-up is under way. -/
def State.startingUp (s : State) : Bool :=
  match s.phase with
  | .starting _ => true
  | _ => false

/-- While start-up is under way every zone is as it begins, in its loaded start mode, the manifest is FREE and the hatch
link IDLE (R46, R93, R99, R144, R145). -/
abbrev State.startLaw (s : State) : Prop :=
  s.startingUp = true →
    (∀ z ∈ Zone.all, s.zones.get z = ZoneState.atStart (s.settings z).startMode) ∧ s.manifest = none ∧ s.hatch = .idle

/-! ## The links (Chapter 9) -/

/-- A link (R165 to R168, R172): a frame in reception is within its LENGTH; no frame is in reception while SENDING; the
request a link holds TAKEN is one of its own; and only a request unanswered holds the link at its rate. -/
def Link.wf (l : Link) (k : LinkId) (running : Bool) : Bool :=
  (match l.rx with
    | .body length taken => decide (1 ≤ length) && decide (length ≤ 200) && decide (taken.length ≤ length)
    | _ => true) &&
  (match l.request with
    | .waiting => true
    | .taken c => running && decide ((requestOn c).map Prod.fst = some k)
    | .sending _ => running && !l.receiving) &&
  (running || !l.receiving) && (!l.rateHeld || decide (l.request ≠ .waiting))

/-- Both links stand within their rules; and from start-up on the facility link is at its live divisor while it is not
sending, the hatch link while it neither receives nor sends nor holds the rate of a request (R165). -/
abbrev State.linksWf (s : State) : Prop :=
  s.fl.wf .facility (decide (s.phase = .running)) = true ∧ s.hl.wf .hatch (decide (s.phase = .running)) = true ∧
  (s.started = true → s.fl.isSending = false → s.fl.rate = s.live.facilityDivisor) ∧
  (s.started = true → s.hl.receiving = false → s.hl.isSending = false → s.hl.rateHeld = false →
    s.hl.rate = s.live.hatchDivisor)

/-! ## The invariant -/

/-- What holds of the part before and after every step. -/
structure State.Inv (s : State) : Prop where
  table : s.tableWf
  bounds : s.ret.bounds.wf
  marks : s.marksLaw
  couriers : s.couriersWf
  staged : s.stagedLaw
  handover : s.handoverLaw
  timers : s.timersLaw
  zones : s.zonesWf
  settings : s.settingsWf
  bank : s.bankLaw
  start : s.startLaw
  links : s.linksWf

end Sys2Proof.Machine
end

