-- ==== Sys2Proof/Certificates/Slice0/Obligations.lean ====
section
/-! DEFINITION. The statements for the provers. Each says which rule of spec/ it formalises. A request is spoken of where its
link takes it (State.takes); what else can become of it is RequestsOnTheirLinks. An equation gives the whole next state, so
every field it does not change is as it was. -/

open Host Sys2Proof Sys2Proof.Machine

/-! ## The step and the links -/

/-- The step law: with a command at the front of the queue, a step is that command's effect with the rest of the queue still
waiting (one queue for both links, the timers and the wiring is the model's choice, log entry 28); with none waiting a
millisecond passes (the model's choice, log entry 3). In it every timer that runs falls by 1 and stands at 0, a held countdown
stands (R153), the site clock's second runs in every phase (R185) and all else only while the part runs; nothing else changes. -/
def Obligations.StepTakesFrontCommand : Prop :=
  ∀ s : State, (∀ c rest, s.pending = c :: rest → step s = exec c { s with pending := rest }) ∧
    (s.pending = [] → step s = .next s.idle) ∧
    (s.phase ≠ .running → s.idle = { s with secondLeft := s.secondLeft - 1 }) ∧
    (s.phase = .running → s.idle =
      { s with
        zones := PerZone.tabulate fun z =>
          { s.zones.get z with
            fire := match (s.zones.get z).fire with
              | .prealarm left => .prealarm (left - 1)
              | .countdown left false => .countdown (left - 1) false
              | f => f
            sampleLeft := (s.zones.get z).sampleLeft - 1
            loopLeft := (s.zones.get z).loopLeft - 1 }
        bank := match s.bank with
          | .committed z left => .committed z (left - 1)
          | b => b
        handoverTimer := s.handoverTimer.map fun left => left - 1
        releaseTimer := s.releaseTimer.map fun left => left - 1
        opening := s.opening.map fun o => { o with left := o.left - 1 }
        fl := { s.fl with gapLeft := s.fl.gapLeft - 1 }
        hl := { s.hl with gapLeft := s.hl.gapLeft - 1 }
        secondLeft := s.secondLeft - 1
        minuteLeft := s.minuteLeft - 1
        hourLeft := s.hourLeft - 1 })

/-- No command faults and none is refused by the model; and no command touches the queue. -/
def Obligations.EveryCommandAnswersAndKeepsQueue : Prop :=
  ∀ (c : Instr) (s : State), ∃ t, exec c s = .next t ∧ t.pending = s.pending

/-- What becomes of a request on its link. The model's choice (log entry 1): a request command is the arrival of its whole
frame and its taking in one step, and one that is equal to the request the link holds TAKEN is that request's taking by its
owner, not an overrun; with a frame in reception it changes nothing, for its own frame cannot complete then. With that (R167,
R168, R172) it is answered with its own code plus 0x80 where the link takes it; an overrun is discarded and the request that
is TAKEN stands; nothing is received while the link is SENDING, and nothing while the part is not running. UNKNOWN_REQUEST
(R169): a frame whose code does not belong to the link is answered UNKNOWN_REQUEST; on a TAKEN link it is an overrun (R168);
on a link that is SENDING (R168), on one with a frame in reception (log entry 1) and while the part is not running it changes
nothing. -/
def Obligations.RequestsOnTheirLinks : Prop :=
  (∀ (c : Instr) (k : LinkId) (code : Byte), requestOn c = some (k, code) → ∀ s : State,
    (s.takes k c → ∃ (t : State) (x : Status) (rs : List Byte), exec c s = .next (t.answered k code x rs) ∧ (x ≠ .ok → rs = [])) ∧
    (s.phase = .running → (s.link k).rx = .hunting → ∀ c', (s.link k).request = .taken c' → c' ≠ c →
      exec c s = .next (s.discardFrame k)) ∧
    (s.phase = .running → (s.link k).rx ≠ .hunting → (s.link k).request ≠ .taken c → exec c s = .next s) ∧
    (s.phase = .running → (s.link k).isSending = true → exec c s = .next s) ∧
    (s.phase ≠ .running → exec c s = .next s)) ∧
  ∀ (s : State) (k : LinkId) (code : Byte) (ps : List Byte),
    (s.phase = .running → (s.link k).rx = .hunting → k.hasCode code = false →
      ((s.link k).request = .waiting → exec (.unknownRequest k code ps) s = .next (s.answered k code .unknownRequest [])) ∧
      (∀ c, (s.link k).request = .taken c → exec (.unknownRequest k code ps) s = .next (s.discardFrame k))) ∧
    (s.phase = .running → (s.link k).rx ≠ .hunting → exec (.unknownRequest k code ps) s = .next s) ∧
    (s.phase = .running → (s.link k).isSending = true → exec (.unknownRequest k code ps) s = .next s) ∧
    (s.phase ≠ .running → exec (.unknownRequest k code ps) s = .next s)

/-- A response begins (R168): the link is SENDING it and nothing else of the part changes, unless a frame was still in
reception, which is then discarded. A discard (R167): the receiver hunts, the link's fault flag is raised, and nothing else
changes, but that the hatch link, when it is not sending and its request does not keep it at the rate at which it came, now
takes a rate that waited for the frame (R165 as the model reads it, log entry 20). A response's bytes (R170): START, two LENGTH
bytes that count CODE to the last result, CODE, STATUS, the results, and a CHECK with which the bytes from LENGTH on add up to 0
in eight bits. -/
def Obligations.ResponsesAndDiscards : Prop :=
  (∀ (t : State) (k : LinkId) (code : Byte) (x : Status) (rs : List Byte),
    let l := t.link k
    let sending : RequestState := .sending { code := code + 0x80, status := x, results := rs }
    (l.rx = .hunting → t.answered k code x rs = t.setLink k { l with request := sending }) ∧
    (l.rx ≠ .hunting → t.answered k code x rs =
      (t.setLink k { l with request := sending, rx := .hunting, gapLeft := 0 }).raise (faultFlag k))) ∧
  (∀ s : State,
    s.discardFrame .facility =
      { s with fl := { s.fl with rx := .hunting, gapLeft := 0 }, flags := s.flags ||| EventFlag.linkFault.mask } ∧
    s.discardFrame .hatch =
      { s with
        hl := { s.hl with
          rx := .hunting
          gapLeft := 0
          rate := if s.hl.isSending || s.hl.rateHeld then s.hl.rate else s.live.hatchDivisor }
        flags := s.flags ||| EventFlag.hatchLinkFault.mask }) ∧
  ∀ r : Response, r.results.length ≤ 307 → ∃ hi lo check : Byte,
    r.frame = [0xA5, hi, lo, r.code, BitVec.ofNat 8 r.status.number] ++ r.results ++ [check] ∧
    256 * hi.toNat + lo.toNat = 2 + r.results.length ∧ (r.frame.drop 1).foldl (fun a b => a + b) 0 = 0

/-- The characters of a link (R166, R167), for CHARACTER_RECEIVED, FRAME_DISCARD and FRAME_GAP_TIMEOUT: what a hunting receiver
takes, how a frame grows, and when it is discarded. A SENDING link takes no character, and a frame that completes beside a
request that is unanswered is an overrun, discarded (R168). The gap times out 50 ms after the last character, which starts it
afresh. (With no frame in reception there is nothing to discard and no gap, and a gap that has time left does not time out: the
model's choice, log entry 2.) -/
def Obligations.CharactersAreReceived : Prop :=
  ∀ (s : State) (k : LinkId) (c : Byte), s.phase = .running →
    let l := s.link k
    (l.isSending = true → ∀ stopOk, exec (.characterReceived k c stopOk) s = .next s) ∧
    (l.isSending = false →
      (l.rx = .hunting → exec (.characterReceived k c false) s = .next s) ∧
      (l.rx = .hunting → c ≠ 0xA5 → exec (.characterReceived k c true) s = .next s) ∧
      (l.rx = .hunting → c = 0xA5 →
        exec (.characterReceived k c true) s = .next (s.setLink k { l with rx := .awaitLength, gapLeft := 50 })) ∧
      (l.rx ≠ .hunting → exec (.characterReceived k c false) s = .next (s.discardFrame k)) ∧
      (l.rx = .awaitLength → c.toNat = 0 ∨ 200 < c.toNat → exec (.characterReceived k c true) s = .next (s.discardFrame k)) ∧
      (l.rx = .awaitLength → 1 ≤ c.toNat → c.toNat ≤ 200 →
        exec (.characterReceived k c true) s = .next (s.setLink k { l with rx := .body c.toNat [], gapLeft := 50 })) ∧
      (∀ n taken, l.rx = .body n taken → taken.length < n →
        exec (.characterReceived k c true) s = .next (s.setLink k { l with rx := .body n (taken ++ [c]), gapLeft := 50 })) ∧
      (∀ n taken, l.rx = .body n taken → taken.length = n →
        (taken ++ [c]).foldl (fun a b => a + b) (BitVec.ofNat 8 n) ≠ 0 ∨ l.request ≠ .waiting →
        exec (.characterReceived k c true) s = .next (s.discardFrame k))) ∧
    (l.rx ≠ .hunting → exec (.frameDiscard k) s = .next (s.discardFrame k) ∧
      (l.gapLeft = 0 → exec (.frameGapTimeout k) s = .next (s.discardFrame k)) ∧
      (l.gapLeft ≠ 0 → exec (.frameGapTimeout k) s = .next s)) ∧
    (l.rx = .hunting → exec (.frameGapTimeout k) s = .next s ∧ exec (.frameDiscard k) s = .next s)

/-- A whole frame (R166 to R169), sent character by character to a hunting link. On a WAITING link it ends with the link TAKEN by
the request it spells, held at its rate where the live divisor is another one by then (R165); a code that is not the link's is
answered UNKNOWN_REQUEST, and a wrong parameter length BAD_PARAM. On a TAKEN link it is an overrun and discarded, whatever it
spells, be it the very request that is TAKEN (R168). What a frame spells (R169, R173): each request's code and parameters spell
it; what a code and parameters spell is a request of that code and of that parameter length; and they spell none exactly when
no request has both. The three requests with a yes or no or a presence byte apart, the parameters are read whole, byte for byte;
of DECLARE's presence byte bits 0 and 1 count (log entry 18), and a yes or no other than 0 and 1 is a free value (log entry 7). -/
def Obligations.WholeFrameIsTaken : Prop :=
  (∀ (s : State) (k : LinkId) (code check : Byte) (ps : List Byte), s.phase = .running →
    (s.link k).rx = .hunting → ps.length ≤ 199 →
    ([BitVec.ofNat 8 (ps.length + 1), code] ++ ps ++ [check]).foldl (fun a b => a + b) 0 = 0 →
    let frame := [0xA5, BitVec.ofNat 8 (ps.length + 1), code] ++ ps ++ [check]
    let after := takeAll (frame.map fun c => .characterReceived k c true) s
    let ended := { s.link k with rx := .hunting, gapLeft := 0 }
    ((s.link k).request = .waiting → after =
      .next (if k.hasCode code = false then (s.setLink k ended).answered k code .unknownRequest []
        else match requestOf code ps with
          | some c => s.setLink k { ended with request := .taken c, rateHeld := decide (ended.rate ≠ s.divisor k) }
          | none => (s.setLink k ended).answered k code .badParam [])) ∧
    ∀ c, (s.link k).request = .taken c → after = .next (s.discardFrame k)) ∧
  (∀ (c : Instr) (k : LinkId) (code : Byte), requestOn c = some (k, code) →
    k.hasCode code = true ∧ requestOf code (paramBytes c) = some c) ∧
  (∀ (c : Instr) (code : Byte) (ps : List Byte), requestOf code ps = some c →
    (∃ k, requestOn c = some (k, code)) ∧ ps.length = (paramBytes c).length ∧
      (code ∉ ([0x42, 0x55, 0x61] : List Byte) → ps = paramBytes c)) ∧
  (∀ (code : Byte) (ps : List Byte), requestOf code ps = none ↔
    ∀ c k, requestOn c = some (k, code) → ps.length ≠ (paramBytes c).length) ∧
  (∀ (k : LinkId) (code : Byte), k.hasCode code = true → ∃ c, requestOn c = some (k, code)) ∧
  ∀ n0 n1 p t0 t1 h0 h1 : Byte, requestOf 0x61 [n0, n1, p, t0, t1, h0, h1] = some (.declare (n0 ++ n1)
    (if p.getLsbD 0 then some (t0 ++ t1) else none) (if p.getLsbD 1 then some (h0 ++ h1) else none))

/-- RESPONSE_SENT (R165, R168): the link is WAITING, its receiver hunting, and its live divisor in force; a link that is not
SENDING has no response to end (the model's choice, log entry 2). A link drives its direction output, FL_DIR or HL_DIR, while it
is SENDING (R168). SET_LINK_RATE sets the live divisor of a link, refused BAD_PARAM above link 1 and STORE_BUSY during a store
write; the hatch link takes it at once when it has no frame in reception and is not sending, unless the request it holds came at
an older rate and is to be answered at it (R165; log entry 20). The bit rate of a divisor D is 9,830,400 / (16 (D + 1)). -/
def Obligations.LinkRatesApplyWhenQuiet : Prop :=
  (∀ (s : State) (k : LinkId), s.phase = .running →
    ((s.link k).isSending = true → exec (.responseSent k) s = .next (s.setLink k
      { rx := .hunting, gapLeft := 0, request := .waiting, rate := s.divisor k, rateHeld := false })) ∧
    ((s.link k).isSending = false → exec (.responseSent k) s = .next s)) ∧
  (∀ (s : State) (k : LinkId), s.drives k = true ↔ ∃ r, (s.link k).request = .sending r) ∧
  (∀ s : State, s.divisor .facility = s.live.facilityDivisor ∧ s.divisor .hatch = s.live.hatchDivisor) ∧
  (∀ d : Byte, bitRate d = 9830400 / (16 * (d.toNat + 1))) ∧
  ∀ (s : State) (link divisor : Byte), s.takes .facility (.setLinkRate link divisor) →
    (1 < link.toNat → exec (.setLinkRate link divisor) s = .next (s.answered .facility 0x5B .badParam [])) ∧
    (link = 0 → exec (.setLinkRate link divisor) s =
      judged s .facility 0x5B [(s.storeBusy, .storeBusy)] { s with live := { s.live with facilityDivisor := divisor } }
        [0, divisor]) ∧
    (link = 1 → exec (.setLinkRate link divisor) s =
      judged s .facility 0x5B [(s.storeBusy, .storeBusy)]
        { s with
          live := { s.live with hatchDivisor := divisor }
          hl := { s.hl with
            rate := if s.hl.rx = .hunting ∧ s.hl.isSending = false ∧ s.hl.rateHeld = false then divisor else s.hl.rate } }
        [1, divisor])

/-! ## Parameters and layouts -/

/-- The ranges of the parameters that requests share (R29, R35, R48, R140, R173, section 1.4, Conventions): a class is below
8, a slot below 1536 with 0xFFFF for no slot, a courier entry below 16, a line below 12, a zone 1 to 7, a mode 0 to 2; a label
is well formed when each of its characters is a digit or a capital letter; an access code when each is a digit, and then it is
known by the number its six digits write (R49, R55), two codes of one number being the same. The numbers of zones, modes,
states, causes, classes, policies, directions and hatch link states (R29, R35, R140, R145, R173), of the statuses in R170's
order, and the priorities of the event flags in R179's. Numbers travel in two, three or four bytes, the most significant
first, a signed one in two's complement; a yes is 1 and a no 0. -/
def Obligations.ParametersHaveTheirRanges : Prop :=
  (∀ (b : Byte) (c : Fin 8), classOf b = some c ↔ b.toNat = c.val) ∧
  (∀ (n : BitVec 16) (h : Fin 1536), slotOf n = some h ↔ n.toNat = h.val) ∧
  (∀ n : BitVec 16, slotParam n = some none ↔ n = 0xFFFF) ∧
  (∀ (n : BitVec 16) (h : Fin 1536), slotParam n = some (some h) ↔ n.toNat = h.val) ∧
  (∀ (b : Byte) (e : Fin 16), entryOf b = some e ↔ b.toNat = e.val) ∧
  (∀ (b : Byte) (n : Fin 12), lineOf b = some n ↔ b.toNat = n.val) ∧
  (∀ (b : Byte) (z : Zone), zoneOf b = some z ↔ b.toNat = z.number) ∧
  (∀ (b : Byte) (m : ZoneMode), modeOf b = some m ↔ b.toNat = m.number) ∧
  (∀ (b : Byte) (p : Policy), policyOf b = some p ↔ b.toNat = p.number) ∧
  (∀ (b : Byte) (m : Capture), captureOf b = some m ↔ b.toNat = m.number) ∧
  (∀ l : Label, labelOk l = true ↔
    ∀ i : Fin 8, (0x30 ≤ l[i].toNat ∧ l[i].toNat ≤ 0x39) ∨ (0x41 ≤ l[i].toNat ∧ l[i].toNat ≤ 0x5A)) ∧
  ((∀ code : AccessCode, codeOf code = none ↔ ∃ i : Fin 6, code[i].toNat < 0x30 ∨ 0x39 < code[i].toNat) ∧
  (∀ (code : AccessCode) (n : Nat), codeOf code = some n →
    n + 0x30 * 111111 = 100000 * code[0].toNat + 10000 * code[1].toNat + 1000 * code[2].toNat + 100 * code[3].toNat
      + 10 * code[4].toNat + code[5].toNat) ∧
  ∀ (a b : AccessCode) (n : Nat), codeOf a = some n → codeOf b = some n → a = b) ∧
  (∀ n : Nat, (be16 n).length = 2 ∧ (be24 n).length = 3 ∧ (be32 n).length = 4 ∧
    laidOut (be16 n) [(0, 2, n)] ∧ laidOut (be24 n) [(0, 3, n)] ∧ laidOut (be32 n) [(0, 4, n)]) ∧
  (yesNo false = 0 ∧ yesNo true = 1) ∧
  (∀ i : Int, beS16 i = be16 (signedField 2 i) ∧ beS8 i = [BitVec.ofNat 8 (signedField 1 i)]) ∧
  (Zone.all.map Zone.number = [1, 2, 3, 4, 5, 6, 7] ∧
  [ZoneMode.offline, .online, .frozen].map ZoneMode.number = [0, 1, 2] ∧
  (∀ (e : Fin 16) (consignment : BitVec 16) (due hold : Nat),
    [RecordState.shelved, .staged, .out e consignment due, .conditioning hold, .ready, .unplaced].map RecordState.number =
      [0, 1, 2, 3, 4, 5]) ∧
  (∀ (hold : Nat) (other : Bool),
    [ItemState.listed, .accepted, .declined, .returned hold other, .conflict, .unknown].map ItemState.number =
      [0, 1, 2, 3, 4, 5]) ∧
  (∀ (m : Manifest) (cause : Cause), manifestStateNumber none = 0 ∧
    [Stage.building, .offered, .active, .closed cause].map (fun x => manifestStateNumber (some { m with stage := x })) =
      [1, 2, 3, 4]) ∧
  [Stage.building, .offered, .active, .closed .complete, .closed .timeout, .closed .cancelled, .closed .fire, .closed .left].map
    Stage.causeNumber = [0, 0, 0, 1, 2, 3, 4, 5] ∧
  (∀ (due : Nat) (t h : Option Int), [Route.outbound due, .inbound t h].map Route.directionNumber = [0, 1]) ∧
  [ClimateState.nominal, .alert, .excursion].map ClimateState.number = [0, 1, 2] ∧
  [ReadingStatus.fresh, .stale, .unknown].map ReadingStatus.number = [0, 1, 2] ∧
  [LoopClass.openCircuit, .normal, .alarm, .short].map LoopClass.number = [0, 1, 2, 3] ∧
  [LoopState.sound, .warn, .degraded, .isolated].map LoopState.number = [0, 1, 2, 3] ∧
  [Policy.auto, .freezeAtIsolate, .freezeAtRecovery, .onRequest].map Policy.number = [0, 1, 2, 3] ∧
  [Capture.all, .first].map Capture.number = [0, 1]) ∧
  (∀ (left : Nat) (held : Bool),
    [FireState.quiet, .prealarm left, .alarmed, .countdown left held, .discharged, .starved].map FireState.number =
      [0, 1, 2, 3, 4, 5]) ∧
  (∀ (z : Zone) (left : Nat), [Bank.ready, .committed z left, .spent].map Bank.number = [0, 1, 2]) ∧
  (∀ e : Fin 16, [HatchState.idle, .identified e, .lapsed].map HatchState.number = [0, 1, 2]) ∧
  [Status.ok, .unknownRequest, .badParam, .notFound, .alreadyExists, .tableFull, .slotTaken, .wrongState, .zoneFire, .zoneMode,
    .excursion, .marked, .busy, .manifestFull, .wrongCourier, .codeRefused, .courierLocked, .tooLate, .order, .slotsBound,
    .stillActive, .clockInvalid, .notIdentified, .storeBusy].map Status.number = List.range 24 ∧
  [EventFlag.discharge, .countdown, .bankStarved, .zoneAlarm, .zonePrealarm, .loopIsolated, .hatchForced, .climateExcursion,
    .sensorStale, .loopWarn, .loopRecovered, .hatchHeld, .courierLocked, .manifestClosed, .courierMissed, .facilityMissed,
    .holdDone, .overdue, .climateAlert, .linkFault, .hatchLinkFault, .inputChange, .restarted, .retainedLost].map
    EventFlag.priority = (List.range 24).map fun i => i + 1

/-- The record summary (R174): 25 bytes, each field at its offset. The manifest header (R89, R175): 19 bytes, each field at its
offset; the item (R175): 12 bytes; and the item as VIEW shows it, its other-courier byte 0 (R90). -/
def Obligations.RecordAndManifestLayout : Prop :=
  (∀ (s : State) (r : Record),
    let custody : Nat × Nat × Nat :=
      match r.state with
      | .out courier consignment due => (courier.val, consignment.toNat, due)
      | _ => (0, 0, 0)
    let hold : Nat :=
      match r.state with
      | .conditioning hold => hold
      | _ => 0
    let marks := flagField r.marks.exposed + 2 * flagField r.marks.agent + 4 * flagField r.marks.overdue
      + 8 * flagField r.marks.worn
    (s.summary r).length = 25 ∧ (s.summary r).take 8 = r.label.toList ∧
    laidOut (s.summary r)
      [(8, 1, r.cls.val), (9, 1, r.state.number), (10, 2, r.home.elim 0xFFFF Fin.val),
        (12, 1, (s.location r).elim 0 Zone.number), (13, 1, (r.home.map s.zoneOfSlot).elim 0 Zone.number), (14, 1, marks),
        (15, 2, r.count), (17, 1, custody.1), (18, 2, custody.2.1), (20, 3, custody.2.2), (23, 2, hold)]) ∧
  (∀ (s : State) (m : Manifest),
    let due : Nat :=
      match m.route with
      | .outbound due => due
      | .inbound _ _ => 0
    let caseT : Option Int :=
      match m.route with
      | .outbound _ => none
      | .inbound t _ => t
    let caseH : Option Int :=
      match m.route with
      | .outbound _ => none
      | .inbound _ h => h
    let handover := if m.stage = .offered ∨ m.stage = .active then (s.handoverTimer.getD 0) / 1000 else 0
    let release := if m.stage.isOpen then 0 else (s.releaseTimer.getD 0) / 1000
    (s.header m).length = 19 ∧
    laidOut (s.header m)
      [(0, 1, manifestStateNumber (some m)), (1, 1, flagField (!m.route.isOutbound)), (2, 1, flagField (!m.route.isOutbound)),
        (3, 1, m.courier.val), (4, 2, m.consignment.toNat), (6, 2, due),
        (8, 1, flagField caseT.isSome + 2 * flagField caseH.isSome), (9, 2, signedField 2 (caseT.getD 0)),
        (11, 2, signedField 2 (caseH.getD 0)), (13, 1, m.items.length), (14, 1, m.stage.causeNumber), (15, 2, handover),
        (17, 2, release)]) ∧
  ∀ i : Item,
    let returned : Nat × Bool :=
      match i.state with
      | .returned hold other => (hold, other)
      | _ => (0, false)
    i.bytes.length = 12 ∧ i.bytes.take 8 = i.label.toList ∧
    laidOut i.bytes [(8, 1, i.state.number), (9, 2, returned.1), (11, 1, flagField returned.2)] ∧
    i.viewBytes.take 11 = i.bytes.take 11 ∧ i.viewBytes.drop 11 = [0]

/-- The zone report (R47, R108, R143, R163, R176): 77 bytes, each field at its offset. -/
def Obligations.ZoneReportLayout : Prop :=
  ∀ (s : State) (z : Zone),
    let units := s.ret.bounds.unitsOf z
    let v := s.zones.get z
    let a := s.ret.climate.get z
    let c := s.settings z
    let reading := v.sensor.reading.getD { t := 0, rh := 0 }
    let raw := v.sensor.raw.getD { t := 0, h := 0 }
    let window : Nat :=
      match v.fire with
      | .prealarm left => left / 1000
      | _ => 0
    let countdown : Nat × Bool :=
      match v.fire with
      | .countdown left held => (left / 1000, held)
      | _ => (0, false)
    let pulse : Nat × Nat :=
      match s.bank with
      | .committed z' left => if z' = z then (1, left / 1000) else (0, 0)
      | _ => (0, 0)
    (s.zoneReport z).length = 77 ∧
    laidOut (s.zoneReport z)
      [(0, 1, z.number), (1, 1, v.mode.number), (2, 1, c.startMode.number), (3, 1, units.elim 0xFF Prod.fst),
        (4, 1, units.elim 0xFF Prod.snd), (5, 2, s.ret.bounds.slotsOwned z), (7, 2, s.slotsBound z),
        (9, 1, v.sensor.status.number), (10, 1, flagField v.sensor.reading.isSome + 2 * flagField v.sensor.raw.isSome),
        (11, 2, signedField 2 reading.t), (13, 2, signedField 2 reading.rh), (15, 2, raw.t.toNat), (17, 2, raw.h.toNat),
        (19, 1, v.sensor.staleCount), (20, 2, v.sensor.weight), (22, 3, a.dose), (25, 1, a.state.number)] ∧
    laidOut (s.zoneReport z)
      [(26, 1, c.climate.period), (27, 1, c.climate.staleLimit), (28, 2, signedField 2 c.climate.rhTarget),
        (30, 1, signedField 1 c.climate.rhBand), (31, 2, signedField 2 c.climate.tTarget),
        (33, 1, signedField 1 c.climate.tBand), (34, 1, c.climate.recovery), (35, 3, c.climate.alert),
        (38, 3, c.climate.exposure), (41, 1, signedField 1 c.trims.t), (42, 1, signedField 1 c.trims.h)] ∧
    laidOut (s.zoneReport z)
      [(43, 2, v.loop.latest.elim 0xFFFF Prod.fst), (45, 1, v.loop.latest.elim 0xFF fun x => x.2.number),
        (46, 1, v.loop.state.number), (47, 1, v.loop.trouble), (48, 1, v.loop.run), (49, 1, flagField v.loop.ready),
        (50, 1, flagField v.loop.flags.openSeen + 2 * flagField v.loop.flags.shortSeen + 4 * flagField v.loop.flags.alarmSeen),
        (51, 2, c.loop.openMax), (53, 2, c.loop.normalMax), (55, 2, c.loop.alarmMax), (57, 1, c.loop.policy.number),
        (58, 1, c.loop.capture.number)] ∧
    laidOut (s.zoneReport z)
      [(59, 1, v.fire.number), (60, 1, window), (61, 1, countdown.1), (62, 1, flagField countdown.2),
        (63, 1, v.alarmTime.elim 0 fun t => if t.valid then 2 else 1), (64, 4, v.alarmTime.elim 0 AlarmTime.value),
        (68, 1, flagField c.release.enabled), (69, 2, signedField 2 c.release.heatAbs),
        (71, 1, signedField 1 c.release.heatRise), (72, 1, s.live.release.window), (73, 1, s.live.release.countdown),
        (74, 1, s.live.release.pulse), (75, 1, pulse.1), (76, 1, pulse.2)]

/-- The STATUS result (R177, R180): 32 bytes, the flag of priority p at bit p - 1; the highest-priority pending flag is the
lowest number among the set flags, 0 when none is set. The READ_CONDITIONING result (R126, R178): 11 bytes. -/
def Obligations.StatusAndConditioningLayout : Prop :=
  (∀ s : State, s.statusBytes.length = 32 ∧
    laidOut s.statusBytes
      [(0, 3, s.flags.toNat), (3, 3, s.live.enables.toNat), (6, 1, highestPending s.flags),
        (7, 1, manifestStateNumber s.manifest), (8, 1, flagField s.storeBusy), (9, 1, flagField s.ret.clockValid),
        (10, 1, s.bank.number)] ∧
    ∀ z ∈ Zone.all, laidOut s.statusBytes
      [(8 + 3 * z.number, 1, (s.mode z).number), (9 + 3 * z.number, 1, (s.fire z).number),
        (10 + 3 * z.number, 1, (s.climate z).number)]) ∧
  (∀ (s : State) (f : EventFlag), s.flag f = true → (∀ g, s.flag g = true → f.priority ≤ g.priority) →
    highestPending s.flags = f.priority) ∧
  (highestPending 0 = 0) ∧
  ∀ s : State, s.conditioningBytes.length = 11 ∧
    laidOut s.conditioningBytes
      [(0, 1, s.live.conditioning.kT), (1, 1, s.live.conditioning.kH), (2, 1, s.live.conditioning.base),
        (3, 1, flagField s.gateOpen),
        (4, 1, flagField (decide ((s.zones.get .zc).sensor.status = .fresh)) + 2 * flagField (!s.inExcursion .zc)
          + 4 * flagField (decide (s.fire .zc = .quiet))),
        (5, 2, (s.ret.records.filter Record.isConditioning).length),
        (7, 2, (s.ret.records.filter fun r => decide (r.state = .ready)).length),
        (9, 2, (s.ret.records.filterMap Record.hold).min?.getD 0)]

/-! ## The custody table -/

/-- ENROLL (R8): its tests in their order; then the new record, SHELVED at the given slot, or without one UNPLACED and given
EXPOSED when ZC is in EXCURSION, is at its place in the table and in the summary of the response. -/
def Obligations.EnrollMakesARecord : Prop :=
  ∀ (s : State) (label : Label) (cls : Byte) (slot : BitVec 16), s.takes .facility (.enroll label cls slot) →
    (labelOk label = false ∨ classOf cls = none ∨ slotParam slot = none →
      exec (.enroll label cls slot) s = .next (s.answered .facility 0x10 .badParam [])) ∧
    ∀ c home, labelOk label = true → classOf cls = some c → slotParam slot = some home →
      let zone : Zone := home.elim .zc s.zoneOfSlot
      let r : Record :=
        { label := label, cls := c, state := if home.isSome then .shelved else .unplaced, home := home, count := 0
          marks := { exposed := home.isNone && s.inExcursion .zc, agent := false, overdue := false, worn := false } }
      exec (.enroll label cls slot) s = judged s .facility 0x10
        ([((s.find label).isSome, .alreadyExists), (decide (2048 ≤ s.ret.records.length), .tableFull),
          (home.any s.slotBound, .slotTaken)] ++ s.gateTests zone ++ [(home.isSome && s.inExcursion zone, .excursion)])
        (s.setRecords (insertRecord r s.ret.records)) (s.summary r)

/-- LOOKUP and SLOT_QUERY (R9, R10) report the record of a label, and a slot with its zone and the record bound to it, and
change nothing; the record of a label, and the holder of a slot, are the record with that label and the one with that home.
NEXT_LABEL (R11): over a table in label order it answers with the summary of the record whose label is the smallest greater
than the given one, the empty label standing before the first, or NOT_FOUND; it changes nothing. Labels are ordered by the
first character that differs (R3). -/
def Obligations.LookupsReportTheTable : Prop :=
  ((∀ (s : State) (label : Label), s.takes .facility (.lookup label) →
    exec (.lookup label) s = onRecord s 0x11 label fun r => .next (s.answered .facility 0x11 .ok (s.summary r))) ∧
  (∀ (s : State) (slot : BitVec 16), s.takes .facility (.slotQuery slot) →
    (slotOf slot = none → exec (.slotQuery slot) s = .next (s.answered .facility 0x12 .badParam [])) ∧
    ∀ h, slotOf slot = some h → exec (.slotQuery slot) s = .next (s.answered .facility 0x12 .ok
      (be16 h.val ++ [byteOf (s.zoneOfSlot h).number] ++
        match s.slotHolder h with
        | some r => [0] ++ r.label.toList ++ [byteOf r.state.number]
        | none => [1] ++ List.replicate 9 0xFF))) ∧
  (∀ (s : State) (label : Label), (∀ r, s.find label = some r → r ∈ s.ret.records ∧ r.label = label) ∧
    (s.find label = none → ∀ r ∈ s.ret.records, r.label ≠ label)) ∧
  ∀ (s : State) (h : Fin 1536), (∀ r, s.slotHolder h = some r → r ∈ s.ret.records ∧ r.home = some h) ∧
    (s.slotHolder h = none → ∀ r ∈ s.ret.records, r.home ≠ some h) ∧ s.slotBound h = (s.slotHolder h).isSome) ∧
  (∀ a b : Label, labelBefore a b = true ↔ ∃ i : Fin 8, (∀ j : Fin 8, j < i → a[j] = b[j]) ∧ a[i].toNat < b[i].toNat) ∧
  ∀ (s : State) (label : Label), s.takes .facility (.nextLabel label) →
    (labelOk label = false → label ≠ emptyLabel →
      exec (.nextLabel label) s = .next (s.answered .facility 0x13 .badParam [])) ∧
    (labelOk label = true ∨ label = emptyLabel →
      ((∀ x ∈ s.ret.records, ¬ (label = emptyLabel ∨ labelBefore label x.label = true)) →
        exec (.nextLabel label) s = .next (s.answered .facility 0x13 .notFound [])) ∧
      ∀ r ∈ s.ret.records, (label = emptyLabel ∨ labelBefore label r.label = true) →
        s.ret.records.Pairwise (fun a b => labelBefore a.label b.label = true) →
        (∀ x ∈ s.ret.records, (label = emptyLabel ∨ labelBefore label x.label = true) → labelBefore x.label r.label = false) →
        exec (.nextLabel label) s = .next (s.answered .facility 0x13 .ok (s.summary r)))

/-- PLACE and RELOCATE (R12, R13): their tests in their order; then the record is SHELVED at the target slot, everything else
of it unchanged. PLACE's target is the given slot, or the record's own home slot when none is given. -/
def Obligations.PlaceAndRelocate : Prop :=
  (∀ (s : State) (label : Label) (slot : BitVec 16), s.takes .facility (.place label slot) →
    (slotParam slot = none → exec (.place label slot) s = .next (s.answered .facility 0x14 .badParam [])) ∧
    ∀ given, slotParam slot = some given →
      exec (.place label slot) s = onRecord s 0x14 label fun r =>
        if r.state = .unplaced ∨ r.state = .ready then
          match given.or r.home with
          | none => .next (s.answered .facility 0x14 .badParam [])
          | some target =>
            let zone := s.zoneOfSlot target
            judged s .facility 0x14
              ([(decide (r.home ≠ some target) && s.slotBound target, .slotTaken)] ++ s.gateTests .zc ++ s.gateTests zone
                ++ [(s.inExcursion zone, .excursion)])
              (s.modifyRecord label fun r => { r with state := .shelved, home := some target })
              (s.summary { r with state := .shelved, home := some target })
        else .next (s.answered .facility 0x14 .wrongState [])) ∧
  ∀ (s : State) (label : Label) (slot : BitVec 16), s.takes .facility (.relocate label slot) →
    (slotOf slot = none → exec (.relocate label slot) s = .next (s.answered .facility 0x15 .badParam [])) ∧
    ∀ target, slotOf slot = some target →
      exec (.relocate label slot) s = onRecord s 0x15 label fun r =>
        match r.home with
        | none => .next (s.answered .facility 0x15 .wrongState [])
        | some source =>
          judged s .facility 0x15
            ([(decide (r.state ≠ .shelved), .wrongState), (s.slotBound target, .slotTaken)]
              ++ s.gateTests (s.zoneOfSlot source) ++ s.gateTests (s.zoneOfSlot target)
              ++ [(s.inExcursion (s.zoneOfSlot target), .excursion)])
            (s.modifyRecord label fun r => { r with state := .shelved, home := some target })
            (s.summary { r with home := some target })

/-- UNBIND (R14): an OUT record, or a CONDITIONING or READY one through the gate of ZC, is left without a home slot. RETIRE
(R15): a SHELVED, READY or UNPLACED record leaves the table through the gate of the zone where it is located; the response
shows it as it stood. -/
def Obligations.UnbindAndRetire : Prop :=
  (∀ (s : State) (label : Label), s.takes .facility (.unbind label) →
    exec (.unbind label) s = onRecord s 0x16 label fun r =>
      judged s .facility 0x16
        ([(decide (r.state = .shelved ∨ r.state = .staged ∨ r.state = .unplaced), .wrongState)]
          ++ if r.isOut then [] else s.gateTests .zc)
        (s.modifyRecord label fun r => { r with home := none }) (s.summary { r with home := none })) ∧
  ∀ (s : State) (label : Label), s.takes .facility (.retire label) →
    exec (.retire label) s = onRecord s 0x17 label fun r =>
      match s.location r with
      | none => .next (s.answered .facility 0x17 .wrongState [])
      | some zone =>
        judged s .facility 0x17 ([(r.isStaged || r.isConditioning, .wrongState)] ++ s.gateTests zone)
          (s.setRecords (s.ret.records.filter fun x => decide (x.label ≠ label))) (s.summary r)

/-- CLEAR_MARK (R16): EXPOSED is not cleared in a zone in EXCURSION, nor AGENT in a zone that is not QUIET; otherwise the one
mark goes. SET_CLASS (R17) changes the class alone, in any state. EXTEND_DUE (R18) gives an OUT record a new due hour and
takes OVERDUE off it. -/
def Obligations.RecordFieldRequests : Prop :=
  (∀ (s : State) (label : Label) (mark : Byte), s.takes .facility (.clearMark label mark) →
    (3 < mark.toNat → exec (.clearMark label mark) s = .next (s.answered .facility 0x18 .badParam [])) ∧
    (mark.toNat ≤ 3 →
      let cleared (r : Record) : Record :=
        { r with
          marks :=
            { exposed := r.marks.exposed && decide (mark ≠ 0), agent := r.marks.agent && decide (mark ≠ 1)
              overdue := r.marks.overdue && decide (mark ≠ 2), worn := r.marks.worn && decide (mark ≠ 3) } }
      exec (.clearMark label mark) s = onRecord s 0x18 label fun r =>
        judged s .facility 0x18
          [(decide (mark = 0) && (s.location r).any s.inExcursion, .excursion),
            (decide (mark = 1) && (s.location r).any fun z => decide (s.fire z ≠ .quiet), .zoneFire)]
          (s.modifyRecord label cleared) (s.summary (cleared r)))) ∧
  (∀ (s : State) (label : Label) (cls : Byte), s.takes .facility (.setClass label cls) →
    (classOf cls = none → exec (.setClass label cls) s = .next (s.answered .facility 0x19 .badParam [])) ∧
    ∀ c, classOf cls = some c → exec (.setClass label cls) s = onRecord s 0x19 label fun r =>
      .next ((s.modifyRecord label fun r => { r with cls := c }).answered .facility 0x19 .ok (s.summary { r with cls := c }))) ∧
  ∀ (s : State) (label : Label) (hours : BitVec 16), s.takes .facility (.extendDue label hours) →
    (hours.toNat < 1 ∨ 8760 < hours.toNat →
      exec (.extendDue label hours) s = .next (s.answered .facility 0x1A .badParam [])) ∧
    (1 ≤ hours.toNat → hours.toNat ≤ 8760 →
      let due := s.ret.clock / 3600 + hours.toNat
      exec (.extendDue label hours) s = onRecord s 0x1A label fun r =>
        judged s .facility 0x1A [(!r.isOut, .wrongState), (!s.ret.clockValid, .clockInvalid)]
          (s.modifyRecord label (Record.extended due)) (s.summary (r.extended due)))

/-- The changes of one record that other blocks ask of CT, and the due hour's (R18, R24 to R26, R122): stage, revert, check
out, return, ready at an open minute tick, and the new due hour. Nothing else of the record changes. A record is located by
its state (R5): a SHELVED one in the zone of its home slot, an OUT one in none, any other in ZC; and the gate of a zone (R7)
is ZONE_MODE unless ONLINE, then ZONE_FIRE unless QUIET or PREALARM. In the table (R3) a change made to the record of a label
leaves every other record as it stood at its place; a new record stands at its place in a table in label order, the others as
they stood before and after it. -/
def Obligations.RecordOperations : Prop :=
  (∀ (s : State) (label : Label) (f : Record → Record),
    let t := s.modifyRecord label f
    t = { s with ret := { s.ret with records := t.ret.records } } ∧ t.ret.records.length = s.ret.records.length ∧
    ∀ (n : Nat) (r : Record), s.ret.records[n]? = some r →
      t.ret.records[n]? = some (if r.label = label then f r else r)) ∧
  (∀ (b : Bounds) (s : State) (r : Record),
    (r.state = .shelved → b.location r = r.home.map b.zoneOfSlot) ∧
    (∀ courier consignment due, r.state = .out courier consignment due → b.location r = none) ∧
    (r.state = .staged ∨ r.state = .unplaced ∨ r.state = .ready ∨ (∃ hold, r.state = .conditioning hold) →
      b.location r = some .zc) ∧
    s.location r = s.ret.bounds.location r ∧ ∀ h, s.zoneOfSlot h = s.ret.bounds.zoneOfSlot h) ∧
  (∀ r : Record, (r.isOut = true ↔ ∃ courier consignment due, r.state = .out courier consignment due) ∧
    (r.isConditioning = true ↔ ∃ hold, r.state = .conditioning hold) ∧
    ∀ hold, r.hold = some hold ↔ r.state = .conditioning hold) ∧
  (∀ (s : State) (z : Zone),
    ((s.fire z).isOpen = true ↔ s.fire z = .quiet ∨ ∃ left, s.fire z = .prealarm left) ∧
    (s.mode z ≠ .online → firstFailing (s.gateTests z) = some .zoneMode) ∧
    (s.mode z = .online → (s.fire z).isOpen = false → firstFailing (s.gateTests z) = some .zoneFire) ∧
    (s.mode z = .online → (s.fire z).isOpen = true → firstFailing (s.gateTests z) = none)) ∧
  (∀ (s : State) (rs : List Record), s.setRecords rs = { s with ret := { s.ret with records := rs } }) ∧
  (∀ (r : Record) (rs : List Record), ∃ a b : List Record, rs = a ++ b ∧ insertRecord r rs = a ++ [r] ++ b ∧
    (rs.Pairwise (fun x y => labelBefore x.label y.label = true) → (∀ x ∈ rs, x.label ≠ r.label) →
      (∀ x ∈ a, labelBefore x.label r.label = true) ∧ ∀ x ∈ b, labelBefore r.label x.label = true)) ∧
  ∀ (s : State) (r : Record),
    (r.state = .shelved → s.staged r =
      { r with state := .staged, marks := { r.marks with exposed := r.marks.exposed || s.inExcursion .zc } }) ∧
    (∀ h, r.state = .staged → r.home = some h → s.reverted r =
      { r with
        state := .shelved
        marks :=
          { r.marks with
            exposed := r.marks.exposed || s.inExcursion (s.zoneOfSlot h)
            agent := r.marks.agent || decide (s.fire (s.zoneOfSlot h) = .discharged) } }) ∧
    (∀ courier consignment due, r.state = .staged → r.count ≤ 65535 →
      let count := min 65535 (r.count + 1)
      let limit := s.live.classLimits[r.cls]
      s.checkedOut courier consignment due r =
        { r with
          state := .out courier consignment due
          count := count
          marks := { r.marks with worn := r.marks.worn || (decide (limit ≠ 0) && decide (limit ≤ count)) } }) ∧
    (∀ courier consignment due hold, r.state = .out courier consignment due → s.returned hold r =
      { r with
        state := if hold = 0 then .ready else .conditioning hold
        marks := { r.marks with overdue := false, exposed := r.marks.exposed || s.inExcursion .zc } }) ∧
    (∀ hold, r.state = .conditioning hold → r.minute =
      { r with state := if hold - 1 = 0 then .ready else .conditioning (hold - 1) }) ∧
    (∀ courier consignment due new, r.state = .out courier consignment due → r.extended new =
      { r with state := .out courier consignment new, marks := { r.marks with overdue := false } }) ∧
    (r.state ≠ .shelved → s.staged r = r) ∧
    (r.state ≠ .staged → s.reverted r = r ∧ ∀ courier consignment due, s.checkedOut courier consignment due r = r) ∧
    (r.isOut = false → (∀ hold, s.returned hold r = r) ∧ ∀ due, r.extended due = r) ∧
    (r.isConditioning = false → r.minute = r)

/-! ## Zones and boundaries -/

/-- The units of the zones (R30, R31): under boundaries in order, the zone of a slot is the storage zone whose units hold the
slot's unit, so the units of two zones never meet and every slot has a zone. Zone k holds the units B(k−1) + 1 to Bk, Z1 from unit
0, ZC none, and owns 64 slots a unit; the six counts add up to 1536. The slots bound in a zone (R47) are the bound slots of its
units, in a table that binds no slot twice. -/
def Obligations.ZonesPartitionTheSlots : Prop :=
  (∀ b : Bounds, b.wf →
    (∀ (h : Fin 1536) (z : Zone),
      b.zoneOfSlot h = z ↔ ∃ first last, b.unitsOf z = some (first, last) ∧ first ≤ h.val / 64 ∧ h.val / 64 ≤ last) ∧
    (Zone.all.map b.slotsOwned).sum = 1536 ∧ b.unitsOf .zc = none) ∧
  (∀ (b : Bounds) (k v : Nat), (List.range 7).map b.get = [0, b.b1, b.b2, b.b3, b.b4, b.b5, 23] ∧
    (1 ≤ k → k ≤ 5 → ∀ j, (b.set k v).get j = if j = k then v else b.get j)) ∧
  (∀ (b : Bounds) (z : Zone) (first last : Nat), z ≠ .zc → (b.unitsOf z = some (first, last) ↔
    first = (if z = .z1 then 0 else b.get (z.number - 1) + 1) ∧ last = b.get z.number ∧ first ≤ last)) ∧
  (∀ (b : Bounds) (z : Zone), (∀ first last, b.unitsOf z = some (first, last) → b.slotsOwned z = 64 * (last + 1 - first)) ∧
    (b.unitsOf z = none → b.slotsOwned z = 0)) ∧
  ∀ (s : State) (z : Zone), s.ret.records.Pairwise (fun a b => a.home = none ∨ a.home ≠ b.home) →
    s.slotsBound z = ((List.finRange 1536).filter fun h => s.slotBound h && decide (s.zoneOfSlot h = z)).length

/-- SET_BOUNDARY (R33, R34): its tests in their order, SLOTS_BOUND where some slot that would change zone is bound; then that
one boundary takes the new value, and the response gives the five. -/
def Obligations.SetBoundaryMovesUnits : Prop :=
  ∀ (s : State) (boundary value : Byte), s.takes .facility (.setBoundary boundary value) → s.ret.bounds.wf →
    let k := boundary.toNat
    let v := value.toNat
    let b := s.ret.bounds
    (k < 1 ∨ 5 < k ∨ 23 < v → exec (.setBoundary boundary value) s = .next (s.answered .facility 0x31 .badParam [])) ∧
    ∀ lower upper : Zone, lower.number = k → upper.number = k + 1 → k ≤ 5 → v ≤ 23 →
      let moved := b.set k v
      exec (.setBoundary boundary value) s = judged s .facility 0x31
        [(decide (v < b.get (k - 1) ∨ b.get (k + 1) < v), .order),
          (decide (s.mode lower ≠ .offline ∨ s.mode upper ≠ .offline), .zoneMode),
          (s.ret.records.any fun r => r.home.any fun h => decide (moved.zoneOfSlot h ≠ b.zoneOfSlot h), .slotsBound)]
        { s with ret := { s.ret with bounds := moved } }
        [byteOf moved.b1, byteOf moved.b2, byteOf moved.b3, byteOf moved.b4, byteOf moved.b5]

/-- SET_ZONE_MODE (R41 to R43): OFFLINE is refused in COUNTDOWN; otherwise the zone takes the mode, an entry into OFFLINE
clears its loop but leaves an ISOLATED one ISOLATED, and the mode it already has changes nothing. The values kept for the
zones are each its own. -/
def Obligations.SetZoneModeTakesTheMode : Prop :=
  (∀ (s : State) (z w : Zone) (v : ZoneState) (c : ZoneSettings),
    (s.setZone z v).zones.get w = (if w = z then v else s.zones.get w) ∧
    (s.setSettings z c).settings w = (if w = z then c else s.settings w) ∧
    s.setZone z v = { s with zones := (s.setZone z v).zones } ∧
    s.setSettings z c = { s with live := { s.live with zones := (s.setSettings z c).live.zones } } ∧
    s.mode z = (s.zones.get z).mode ∧ s.fire z = (s.zones.get z).fire ∧ s.climate z = (s.ret.climate.get z).state ∧
    s.settings z = s.live.zones.get z) ∧
  ∀ (s : State) (zone mode : Byte), s.takes .facility (.setZoneMode zone mode) →
    (zoneOf zone = none ∨ modeOf mode = none →
      exec (.setZoneMode zone mode) s = .next (s.answered .facility 0x30 .badParam [])) ∧
    ∀ z m, zoneOf zone = some z → modeOf mode = some m →
      let v := s.zones.get z
      let cleared : Loop :=
        { v.loop with
          state := if v.loop.state = .isolated then .isolated else .sound
          trouble := 0, run := 0, ready := false, flags := { openSeen := false, shortSeen := false, alarmSeen := false } }
      exec (.setZoneMode zone mode) s = judged s .facility 0x30
        [(decide (m = .offline ∧ v.mode ≠ .offline) && v.fire.isCountdown, .zoneFire)]
        (if v.mode = m then s
          else s.setZone z { v with mode := m, loop := if m = .offline then cleared else v.loop })
        [zone, mode]

/-- The settings of no zone's mode (R22, R46, R75, R119, R180): SET_CLASS_LIMIT, SET_START_MODE, SET_TIMERS, SET_CONDITIONING
and SET_EVENT_ENABLE are refused STORE_BUSY during a store write; otherwise they set their live values, those of a range held
within it, and answer with the values in force. -/
def Obligations.GlobalSettingsAreSet : Prop :=
  (∀ (s : State) (cls : Byte) (limit : BitVec 16), s.takes .facility (.setClassLimit cls limit) →
    (classOf cls = none → exec (.setClassLimit cls limit) s = .next (s.answered .facility 0x59 .badParam [])) ∧
    ∀ c, classOf cls = some c → exec (.setClassLimit cls limit) s = judged s .facility 0x59 [(s.storeBusy, .storeBusy)]
      { s with live := { s.live with classLimits := s.live.classLimits.set c limit.toNat } } ([cls] ++ be16 limit.toNat)) ∧
  (∀ (s : State) (zone mode : Byte), s.takes .facility (.setStartMode zone mode) →
    (zoneOf zone = none ∨ modeOf mode = none →
      exec (.setStartMode zone mode) s = .next (s.answered .facility 0x36 .badParam [])) ∧
    ∀ z m, zoneOf zone = some z → modeOf mode = some m →
      exec (.setStartMode zone mode) s = judged s .facility 0x36 [(s.storeBusy, .storeBusy)]
        (s.setSettings z { s.settings z with startMode := m }) [zone, mode]) ∧
  (∀ (s : State) (handover release openLimit : BitVec 16), s.takes .facility (.setTimers handover release openLimit) →
    let h := max 30 (min 900 handover.toNat)
    let r := max 10 (min 600 release.toNat)
    let o := max 10 (min 300 openLimit.toNat)
    exec (.setTimers handover release openLimit) s = judged s .facility 0x58 [(s.storeBusy, .storeBusy)]
      { s with live := { s.live with timers := { handover := h, release := r, openLimit := o } } }
      (be16 h ++ be16 r ++ be16 o)) ∧
  (∀ (s : State) (kT kH base : Byte), s.takes .facility (.setConditioning kT kH base) →
    let t := min 60 kT.toNat
    let h := min 30 kH.toNat
    let b := min 120 base.toNat
    exec (.setConditioning kT kH base) s = judged s .facility 0x37 [(s.storeBusy, .storeBusy)]
      { s with live := { s.live with conditioning := { kT := t, kH := h, base := b } } } [byteOf t, byteOf h, byteOf b]) ∧
  ∀ (s : State) (enables : BitVec 24), s.takes .facility (.setEventEnable enables) →
    exec (.setEventEnable enables) s = judged s .facility 0x52 [(s.storeBusy, .storeBusy)]
      { s with live := { s.live with enables := enables } } (be24 enables.toNat)

/-- The requests that report and change nothing, READ_ZONE, READ_COURIER, READ_MANIFEST, READ_CONDITIONING, STATUS, READ_CLOCK,
IDENTIFY_PART and HATCH_STATUS (R47, R52, R65, R89, R126, R171, R180, R185): each answers OK with its report of the state as
it stands; a zone or an entry out of range is BAD_PARAM, and a FREE manifest WRONG_STATE. -/
def Obligations.ReportsChangeNothing : Prop :=
  (∀ (s : State) (zone : Byte), s.takes .facility (.readZone zone) → exec (.readZone zone) s =
    .next (match zoneOf zone with
      | none => s.answered .facility 0x33 .badParam []
      | some z => s.answered .facility 0x33 .ok (s.zoneReport z))) ∧
  (∀ (s : State) (entry : Byte), s.takes .facility (.readCourier entry) → exec (.readCourier entry) s =
    .next (match entryOf entry with
      | none => s.answered .facility 0x2B .badParam []
      | some e =>
        let identified : Byte := if s.identified = some e then 1 else 0
        s.answered .facility 0x2B .ok
          (match s.ret.couriers[e] with
            | some c => [entry, 1] ++ be24 c.badge.toNat ++ [byteOf c.attempts, if c.locked then 1 else 0, identified]
            | none => [entry, 0, 0, 0, 0, 0, 0, identified]))) ∧
  (∀ s : State, s.takes .facility .readManifest → exec .readManifest s =
    .next (match s.manifest with
      | none => s.answered .facility 0x25 .wrongState []
      | some m => s.answered .facility 0x25 .ok (s.header m ++ (m.items.map Item.bytes).flatten))) ∧
  (∀ s : State, s.takes .facility .readConditioning →
    exec .readConditioning s = .next (s.answered .facility 0x38 .ok s.conditioningBytes)) ∧
  (∀ s : State, s.takes .facility .status → exec .status s = .next (s.answered .facility 0x50 .ok s.statusBytes)) ∧
  (∀ s : State, s.takes .facility .readClock → exec .readClock s =
    .next (s.answered .facility 0x54 .ok (be32 s.ret.clock ++ [if s.ret.clockValid then 1 else 0]))) ∧
  (∀ s : State, s.takes .facility .identifyPart →
    exec .identifyPart s = .next (s.answered .facility 0x5F .ok [0x03, 0x18, 1])) ∧
  ∀ s : State, s.takes .hatch .hatchStatus → exec .hatchStatus s =
    .next (s.answered .hatch 0x68 .ok
      ([byteOf s.hatch.number, s.identified.elim 0xFF fun e => byteOf e.val, byteOf (manifestStateNumber s.manifest),
        s.manifest.elim 0xFF fun m => byteOf m.route.directionNumber] ++ be16 (s.handoverTimer.getD 0 / 1000)
        ++ [if s.lockAsserted then 1 else 0, if s.doorOpen then 1 else 0]))

/-! ## Couriers and the hatch -/

/-- The courier table's requests (R49 to R51): ENROL_COURIER writes an entry unless another entry holds the badge or the
courier is busy; REVOKE_COURIER empties one that is not busy; UNLOCK_COURIER clears the attempts and the lock. -/
def Obligations.CourierTableRequests : Prop :=
  (∀ (s : State) (entry : Byte) (badge : BitVec 24) (code : AccessCode), s.takes .facility (.enrolCourier entry badge code) →
    (entryOf entry = none ∨ codeOf code = none ∨ badge = 0 →
      exec (.enrolCourier entry badge code) s = .next (s.answered .facility 0x28 .badParam [])) ∧
    ∀ e value, entryOf entry = some e → codeOf code = some value → badge ≠ 0 →
      exec (.enrolCourier entry badge code) s = judged s .facility 0x28
        [(decide (∃ e' : Fin 16, e' ≠ e ∧ s.ret.couriers[e'].map Courier.badge = some badge), .alreadyExists),
          (decide (s.manifest.map Manifest.courier = some e ∨ s.identified = some e), .busy)]
        { s with
          ret := { s.ret with
            couriers := s.ret.couriers.set e (some { badge := badge, code := value, attempts := 0, locked := false }) } }
        ([entry, 1] ++ be24 badge.toNat ++ [0, 0, 0])) ∧
  (∀ (s : State) (entry : Byte), s.takes .facility (.revokeCourier entry) →
    (entryOf entry = none → exec (.revokeCourier entry) s = .next (s.answered .facility 0x29 .badParam [])) ∧
    ∀ e, entryOf entry = some e → exec (.revokeCourier entry) s = judged s .facility 0x29
      [(decide (s.manifest.map Manifest.courier = some e ∨ s.identified = some e), .busy)]
      { s with ret := { s.ret with couriers := s.ret.couriers.set e none } } [entry, 0, 0, 0, 0, 0, 0, 0]) ∧
  ∀ (s : State) (entry : Byte), s.takes .facility (.unlockCourier entry) →
    (entryOf entry = none → exec (.unlockCourier entry) s = .next (s.answered .facility 0x2A .badParam [])) ∧
    ∀ e, entryOf entry = some e →
      (s.ret.couriers[e] = none → exec (.unlockCourier entry) s = .next (s.answered .facility 0x2A .notFound [])) ∧
      ∀ c, s.ret.couriers[e] = some c → exec (.unlockCourier entry) s = .next
        (State.answered
          { s with ret := { s.ret with couriers := s.ret.couriers.set e (some { c with attempts := 0, locked := false }) } }
          .facility 0x2A .ok
          ([entry, 1] ++ be24 c.badge.toNat ++ [0, 0, if s.identified = some e then 1 else 0]))

/-- IDENTIFY (R55, R56): a LAPSED link is IDLE first; then the tests in their order, a wrong code counted against the badge's
holder and locking it at the third; a right code clears the count even when the manifest is OFFERED to another; and when all
pass the link is IDENTIFIED, the handover timer runs from its full length, and an OFFERED manifest is ACTIVE. -/
def Obligations.IdentifyPresentsACourier : Prop :=
  ∀ (s : State) (badge : BitVec 24) (code : AccessCode), s.takes .hatch (.identify badge code) →
    let idle : State := { s with hatch := if s.hatch = .lapsed then .idle else s.hatch }
    let refusedAs (t : State) (x : Status) : Outcome State Fault Refusal := .next (t.answered .hatch 0x60 x [])
    let withEntry (e : Fin 16) (c : Courier) : State :=
      { idle with ret := { s.ret with couriers := s.ret.couriers.set e (some c) } }
    (codeOf code = none → exec (.identify badge code) s = refusedAs idle .badParam) ∧
    ∀ given, codeOf code = some given →
      (∀ e, s.hatch = .identified e → exec (.identify badge code) s = refusedAs idle .busy) ∧
      (s.identified = none → (∀ e : Fin 16, s.ret.couriers[e].map Courier.badge ≠ some badge) →
        exec (.identify badge code) s = refusedAs idle .notFound) ∧
      ∀ e c, s.identified = none → s.ret.couriers[e] = some c → c.badge = badge →
        (∀ e' : Fin 16, e' ≠ e → s.ret.couriers[e'].map Courier.badge ≠ some badge) →
        (c.locked = true → exec (.identify badge code) s = refusedAs idle .courierLocked) ∧
        (c.locked = false → given ≠ c.code →
          let counted := withEntry e { c with attempts := c.attempts + 1, locked := decide (3 ≤ c.attempts + 1) }
          exec (.identify badge code) s =
            refusedAs (if 3 ≤ c.attempts + 1 then counted.raise .courierLocked else counted) .codeRefused) ∧
        (c.locked = false → given = c.code →
          let cleared := withEntry e { c with attempts := 0 }
          ((∃ m ∈ s.manifest, m.stage = .offered ∧ m.courier ≠ e) →
            exec (.identify badge code) s = refusedAs cleared .wrongCourier) ∧
          ((∀ m ∈ s.manifest, m.stage = .offered → m.courier = e) →
            let manifest := s.manifest.map fun m => if m.stage = .offered then { m with stage := .active } else m
            exec (.identify badge code) s = .next
              (State.answered
                { cleared with
                  hatch := .identified e
                  manifest := manifest
                  handoverTimer := some (s.live.timers.handover * 1000) }
                .hatch 0x60 .ok
                [byteOf e.val, byteOf (manifestStateNumber manifest),
                  manifest.elim 0xFF fun m => byteOf m.route.directionNumber])))

/-- The hatch requests that need a courier on the link (R53): DECLARE, DEPOSIT, ACCEPT, DECLINE, VIEW and FINISH are answered
NOT_IDENTIFIED in IDLE and TOO_LATE in LAPSED, and change nothing; LEAVE too, but that it ends LAPSED. -/
def Obligations.HatchRequestsNeedACourier : Prop :=
  (∀ (s : State) (c : Instr) (code : Byte), requestOn c = some (.hatch, code) → code ∈ [0x61, 0x62, 0x63, 0x64, 0x65, 0x66] →
    s.takes .hatch c →
    (s.hatch = .idle → exec c s = .next (s.answered .hatch code .notIdentified [])) ∧
    (s.hatch = .lapsed → exec c s = .next (s.answered .hatch code .tooLate []))) ∧
  ∀ s : State, s.takes .hatch .leave →
    (s.hatch = .idle → exec .leave s = .next (s.answered .hatch 0x67 .notIdentified [])) ∧
    (s.hatch = .lapsed → exec .leave s = .next (State.answered { s with hatch := .idle } .hatch 0x67 .tooLate []))

/-- The hatch lock (R60): asserted unless the link is IDENTIFIED, the manifest ACTIVE, no zone in COUNTDOWN or DISCHARGED, ZC
in QUIET or PREALARM and ZC ONLINE. The output functions (R157, R162, R183): a line is asserted by its function, or for NONE by
its host level; and the pin of a running part is high while its line is asserted, but low then for a HATCH_LOCK line. -/
def Obligations.LockAndOutputsFollowTheState : Prop :=
  (∀ s : State, s.lockAsserted = false ↔
    (∃ e, s.hatch = .identified e) ∧ (∃ m ∈ s.manifest, m.stage = .active) ∧
    (∀ z left held, s.fire z ≠ .countdown left held ∧ s.fire z ≠ .discharged) ∧
    (s.fire .zc = .quiet ∨ ∃ left, s.fire .zc = .prealarm left) ∧ s.mode .zc = .online) ∧
  (∀ (s : State) (n : Fin 12), s.outputAsserted n = true ↔
    match s.live.outputs[n] with
    | .none => s.live.hostLevels.getLsbD n.val = true
    | .hatchLock => s.lockAsserted = true
    | .sounder => ∃ z, s.fire z ≠ .quiet ∧ ∀ left, s.fire z ≠ .prealarm left
    | .predischarge => ∃ z left held, s.fire z = .countdown left held
    | .release z => ∃ left, s.bank = .committed z left
    | .bankRelease => ∃ z left, s.bank = .committed z left) ∧
  ∀ (s : State) (n : Fin 12), s.phase = .running →
    s.outputHigh n = if s.live.outputs[n] = .hatchLock then !s.outputAsserted n else s.outputAsserted n

/-! ## The manifest -/

/-- OPEN_MANIFEST and DECLARE (R76, R83): their tests in their order; then a BUILDING OUTBOUND manifest of the named courier,
or an ACTIVE INBOUND one of the courier on the link with the case values held within their ranges and the handover timer at
its full length; both DECLARE and OFFER_MANIFEST are refused ZONE_FIRE while some zone is in COUNTDOWN or DISCHARGED.
OFFER_MANIFEST (R79): its tests in their order; then the manifest is OFFERED, or ACTIVE when its courier is on the link, and
the handover timer runs from its full length. -/
def Obligations.ManifestsAreClaimedAndOffered : Prop :=
  (∀ s : State, s.anyCountdownOrDischarged = true ↔
    ∃ z, (∃ left held, s.fire z = .countdown left held) ∨ s.fire z = .discharged) ∧
  ((∀ (s : State) (direction courier : Byte) (consignment due : BitVec 16),
    s.takes .facility (.openManifest direction courier consignment due) →
    (direction ≠ 0 ∨ entryOf courier = none ∨ due.toNat < 1 ∨ 8760 < due.toNat →
      exec (.openManifest direction courier consignment due) s = .next (s.answered .facility 0x20 .badParam [])) ∧
    ∀ e, direction = 0 → entryOf courier = some e → 1 ≤ due.toNat → due.toNat ≤ 8760 →
      let m : Manifest :=
        { stage := .building, route := .outbound due.toNat, courier := e, consignment := consignment, items := [] }
      exec (.openManifest direction courier consignment due) s = judged s .facility 0x20
        [(s.ret.couriers[e].isNone, .notFound), (s.ret.couriers[e].any Courier.locked, .courierLocked),
          (!s.ret.clockValid, .clockInvalid), (s.manifest.isSome, .busy)]
        { s with manifest := some m } (s.header m)) ∧
  ∀ (s : State) (consignment : BitVec 16) (caseT caseH : Option (BitVec 16)) (e : Fin 16),
    s.takes .hatch (.declare consignment caseT caseH) → s.hatch = .identified e →
    let m : Manifest :=
      { stage := .active, courier := e, consignment := consignment, items := []
        route := .inbound (caseT.map fun t => max (-400) (min 850 t.toInt)) (caseH.map fun h => min 1000 (h.toNat : Int)) }
    let t : State := { s with manifest := some m, handoverTimer := some (s.live.timers.handover * 1000) }
    exec (.declare consignment caseT caseH) s = judged s .hatch 0x61
      ([(s.manifest.isSome, .busy)] ++ s.gateTests .zc ++ [(s.anyCountdownOrDischarged, .zoneFire)]) t (t.header m)) ∧
  ∀ s : State, s.takes .facility .offerManifest →
    (s.manifest = none → exec .offerManifest s = .next (s.answered .facility 0x23 .wrongState [])) ∧
    ∀ m, s.manifest = some m →
      let reached : Stage := if s.hatch = .identified m.courier then .active else .offered
      exec .offerManifest s = judged s .facility 0x23
        ([(decide (m.stage ≠ .building) || m.items.isEmpty, .wrongState)] ++ s.gateTests .zc
          ++ [(s.anyCountdownOrDischarged, .zoneFire)])
        { s with manifest := some { m with stage := reached }, handoverTimer := some (s.live.timers.handover * 1000) }
        [if reached = .active then 3 else 2]

/-- ADD_ITEM and DROP_ITEM (R23, R77, R78): on a BUILDING manifest, an eligible record is listed at the end and STAGED; a
listed one leaves the list, the others closing up, and reverts. Anything else is refused by the first test that fails. -/
def Obligations.ItemsAreListedAndDropped : Prop :=
  (∀ (s : State) (label : Label) (m : Manifest), s.takes .facility (.addItem label) → s.manifest = some m →
    (labelOk label = false → exec (.addItem label) s = .next (s.answered .facility 0x21 .badParam [])) ∧
    (labelOk label = true → ∀ r h, s.find label = some r → (r.state = .shelved → r.home = some h) →
      let listed := m.items ++ [{ label := label, state := .listed }]
      exec (.addItem label) s = judged s .facility 0x21
        ([(decide (m.stage ≠ .building), .wrongState), (m.items.any fun i => decide (i.label = label), .alreadyExists),
          (decide (24 ≤ m.items.length), .manifestFull), (decide (r.state ≠ .shelved), .wrongState)]
          ++ s.gateTests (s.zoneOfSlot h) ++ s.gateTests .zc
          ++ [(r.marks.exposed || r.marks.agent || r.marks.worn, .marked)])
        { s.modifyRecord label s.staged with manifest := some { m with items := listed } }
        ([byteOf listed.length] ++ s.summary (s.staged r))) ∧
    (labelOk label = true → s.find label = none → exec (.addItem label) s = judged s .facility 0x21
      [(decide (m.stage ≠ .building), .wrongState), (m.items.any fun i => decide (i.label = label), .alreadyExists),
        (decide (24 ≤ m.items.length), .manifestFull), (true, .notFound)] s [])) ∧
  (∀ (s : State) (label : Label) (m : Manifest) (r : Record), s.takes .facility (.dropItem label) → s.manifest = some m →
    s.find label = some r →
    let rest := m.items.filter fun i => decide (i.label ≠ label)
    exec (.dropItem label) s = judged s .facility 0x22
      [(!labelOk label, .badParam), (decide (m.stage ≠ .building), .wrongState),
        (m.items.all fun i => decide (i.label ≠ label), .notFound)]
      { s.modifyRecord label s.reverted with manifest := some { m with items := rest } }
      ([byteOf rest.length] ++ s.summary (s.reverted r))) ∧
  (∀ (s : State) (label : Label) (m : Manifest), s.takes .facility (.dropItem label) → s.manifest = some m →
    (∀ i ∈ m.items, i.label ≠ label) →
    exec (.dropItem label) s = judged s .facility 0x22
      [(!labelOk label, .badParam), (decide (m.stage ≠ .building), .wrongState), (true, .notFound)] s []) ∧
  ∀ (s : State) (label : Label), s.manifest = none →
    let answer (code : Byte) : Outcome State Fault Refusal :=
      judged s .facility code [(!labelOk label, .badParam), (true, .wrongState)] s []
    (s.takes .facility (.addItem label) → exec (.addItem label) s = answer 0x21) ∧
    (s.takes .facility (.dropItem label) → exec (.dropItem label) s = answer 0x22)

/-- A closure, whatever its cause (R71, R72): the manifest is CLOSED with the cause, its items as they stood; of an OUTBOUND
one, each item's record is checked out under COMPLETE when ACCEPTED, for the clock hour plus the due hours, and reverted
otherwise, and every other record stands; MANIFEST_CLOSED is raised; the release timer starts; nothing else changes but the
link and its timer. Of these, COMPLETE leaves the link and restarts the timer; LEFT and FIRE end the identification; TIMEOUT
makes an IDENTIFIED link LAPSED; CANCELLED leaves the link, and restarts the timer of a courier on the link when the manifest
was ACTIVE. (A BUILDING or OFFERED manifest cancelled with a courier on the link leaves the timer running: for BUILDING by R54,
log entry 9. A LAPSED link after FIRE is as R58 says, log entry 10, and after TIMEOUT IDLE, log entry 11.) -/
def Obligations.ClosureOfAManifest : Prop :=
  (∀ (s : State) (e : Fin 16), s.identified = some e ↔ s.hatch = .identified e) ∧
  (∀ x : Stage, x.isOpen = true ↔ x = .building ∨ x = .offered ∨ x = .active) ∧
  (∀ (s : State) (m : Manifest) (cause : Cause),
    let t := s.closeWith m cause
    t = { s with
      ret := { s.ret with records := t.ret.records }
      manifest := some { m with stage := .closed cause }
      hatch := t.hatch
      handoverTimer := t.handoverTimer
      releaseTimer := some (s.live.timers.release * 1000)
      flags := s.flags ||| EventFlag.manifestClosed.mask } ∧
    (m.route.isOutbound = false → t.ret.records = s.ret.records) ∧
    ∀ due, m.route = .outbound due → t.ret.records.length = s.ret.records.length ∧
      ∀ (n : Nat) (r : Record), s.ret.records[n]? = some r →
        ((∀ i ∈ m.items, i.label ≠ r.label) → t.ret.records[n]? = some r) ∧
        ∀ i ∈ m.items, i.label = r.label → (m.items.map Item.label).Nodup →
          t.ret.records[n]? = some (if i.state = .accepted ∧ cause = .complete
            then s.checkedOut m.courier m.consignment (s.ret.clock / 3600 + due) r else s.reverted r)) ∧
  ∀ (s : State) (m : Manifest),
    let full := some (s.live.timers.handover * 1000)
    let after (cause : Cause) : HatchState × Option Nat := ((s.closeWith m cause).hatch, (s.closeWith m cause).handoverTimer)
    after .complete = (s.hatch, full) ∧ after .left = (.idle, none) ∧
    (∀ e, s.hatch = .identified e →
      after .timeout = (.lapsed, none) ∧ after .fire = (.idle, none) ∧
      after .cancelled = (s.hatch, if m.stage = .active then full else s.handoverTimer)) ∧
    (s.identified = none → after .timeout = (.idle, none) ∧ after .fire = (s.hatch, none) ∧ after .cancelled = (s.hatch, none))

/-- The requests that close or free the manifest (R59, R73, R82, R85 to R87): CANCEL_MANIFEST closes an open one, FINISH and
LEAVE an ACTIVE one with the courier on the link, RELEASE_MANIFEST frees a CLOSED one; LEAVE with no ACTIVE manifest ends the
visit alone (that its OK then carries no result is deduced, log entry 14). Otherwise they are refused WRONG_STATE. -/
def Obligations.ManifestsAreClosedAndFreed : Prop :=
  (∀ s : State, s.takes .facility .cancelManifest →
    (s.manifest = none → exec .cancelManifest s = .next (s.answered .facility 0x24 .wrongState [])) ∧
    ∀ m, s.manifest = some m → exec .cancelManifest s =
      judged s .facility 0x24 [(!m.stage.isOpen, .wrongState)] (s.closeWith m .cancelled) []) ∧
  (∀ s : State, s.takes .facility .releaseManifest →
    (s.manifest = none → exec .releaseManifest s = .next (s.answered .facility 0x26 .wrongState [])) ∧
    ∀ m, s.manifest = some m → exec .releaseManifest s =
      judged s .facility 0x26 [(m.stage.isOpen, .wrongState)] { s with manifest := none, releaseTimer := none } []) ∧
  (∀ (s : State) (e : Fin 16), s.takes .hatch .finish → s.hatch = .identified e →
    (s.manifest = none → exec .finish s = .next (s.answered .hatch 0x66 .wrongState [])) ∧
    ∀ m, s.manifest = some m →
      let count (p : ItemState → Bool) : Byte := byteOf (m.items.countP fun i => p i.state)
      exec .finish s = judged s .hatch 0x66 [(decide (m.stage ≠ .active), .wrongState)] (s.closeWith m .complete)
        (if m.route.isOutbound then [count fun x => decide (x = .accepted), count fun x => decide (x ≠ .accepted)]
          else [count fun x => decide (x.number = 3), count fun x => decide (x.number = 4), count fun x => decide (x.number = 5)])) ∧
  ∀ (s : State) (e : Fin 16), s.takes .hatch .leave → s.hatch = .identified e →
    (∀ m, s.manifest = some m → m.stage = .active →
      exec .leave s = .next ((s.closeWith m .left).answered .hatch 0x67 .ok [5])) ∧
    ((∀ m ∈ s.manifest, m.stage ≠ .active) → exec .leave s = .next
      (State.answered
        { s with hatch := .idle, handoverTimer := if ∃ m ∈ s.manifest, m.stage = .offered then s.handoverTimer else none }
        .hatch 0x67 .ok []))

/-- ACCEPT, DECLINE and VIEW with the courier on the link (R80, R81, R90): on an ACTIVE OUTBOUND manifest the item takes the
state, every other item as it stood; VIEW shows an ACTIVE manifest; each accepted request restarts the handover timer. -/
def Obligations.CourierChoosesAndViews : Prop :=
  (∀ (s : State) (e : Fin 16) (label : Label) (m : Manifest), s.hatch = .identified e → s.manifest = some m →
    let answer (code : Byte) (x : ItemState) : Outcome State Fault Refusal := judged s .hatch code
      [(!labelOk label, .badParam), (decide (m.stage ≠ .active) || !m.route.isOutbound, .wrongState),
        (m.items.all fun i => decide (i.label ≠ label), .notFound)]
      { s with
        handoverTimer := some (s.live.timers.handover * 1000)
        manifest := some { m with items := m.items.map fun i => if i.label = label then { i with state := x } else i } }
      (label.toList ++ [byteOf x.number])
    (s.takes .hatch (.accept label) → exec (.accept label) s = answer 0x63 .accepted) ∧
    (s.takes .hatch (.decline label) → exec (.decline label) s = answer 0x64 .declined)) ∧
  (∀ (s : State) (e : Fin 16) (m : Manifest), s.takes .hatch .view → s.hatch = .identified e → s.manifest = some m →
    exec .view s = judged s .hatch 0x65 [(decide (m.stage ≠ .active), .wrongState)]
      { s with handoverTimer := some (s.live.timers.handover * 1000) }
      ([byteOf m.route.directionNumber] ++ be16 m.consignment.toNat ++ [byteOf m.items.length]
        ++ (m.items.map Item.viewBytes).flatten)) ∧
  ∀ (s : State) (e : Fin 16) (label : Label), s.hatch = .identified e → s.manifest = none →
    let answer (code : Byte) : Outcome State Fault Refusal :=
      judged s .hatch code [(!labelOk label, .badParam), (true, .wrongState)] s []
    (s.takes .hatch (.accept label) → exec (.accept label) s = answer 0x63) ∧
    (s.takes .hatch (.decline label) → exec (.decline label) s = answer 0x64) ∧
    (s.takes .hatch .view → exec .view s = .next (s.answered .hatch 0x65 .wrongState []))

/-- DEPOSIT with the courier on the link (R84): its tests in their order; then the item is listed as UNKNOWN, CONFLICT or
RETURNED with its hold, an OUT record is returned with that hold, HOLD_DONE is raised for a hold of 0, and the handover timer
restarts. The hold (R117, R118): the distances of the case values from ZC's targets weighted by k_t and k_h, divided by 10
rounded up, with base added, and at most 720; and 720 when either case value is absent. -/
def Obligations.DepositRecordsACartridge : Prop :=
  (∀ (s : State) (e : Fin 16) (label : Label), s.takes .hatch (.deposit label) → s.hatch = .identified e →
    (labelOk label = false → exec (.deposit label) s = .next (s.answered .hatch 0x62 .badParam [])) ∧
    (labelOk label = true → (∀ m ∈ s.manifest, m.stage ≠ .active ∨ m.route.isOutbound = true) →
      exec (.deposit label) s = .next (s.answered .hatch 0x62 .wrongState [])) ∧
    ∀ m caseT caseH, labelOk label = true → s.manifest = some m → m.stage = .active → m.route = .inbound caseT caseH →
      let hold := s.holdFor caseT caseH
      let tests : List (Bool × Status) :=
        [(decide (24 ≤ m.items.length), .manifestFull), (m.items.any fun i => decide (i.label = label), .alreadyExists)]
      let listed (x : ItemState) : State :=
        { s with
          handoverTimer := some (s.live.timers.handover * 1000)
          manifest := some { m with items := m.items ++ [{ label := label, state := x }] } }
      (s.find label = none → exec (.deposit label) s = judged s .hatch 0x62 tests (listed .unknown) [5, 0xFF, 0xFF, 0xFF]) ∧
      (∀ r, s.find label = some r → r.isOut = false →
        (∀ x ∈ s.ret.records, x.label = label → x = r) →
        exec (.deposit label) s = judged s .hatch 0x62 tests (listed .conflict) [4, 0xFF, 0xFF, 0xFF]) ∧
      ∀ r courier consignment due, s.find label = some r → r.state = .out courier consignment due →
        let t := (listed (.returned hold (decide (courier ≠ m.courier)))).modifyRecord label (s.returned hold)
        exec (.deposit label) s = judged s .hatch 0x62 tests (if hold = 0 then t.raise .holdDone else t)
          ([3] ++ be16 hold ++ [if courier = m.courier then 0 else 1])) ∧
  ∀ s : State,
    (∀ t h : Int,
      let c := s.live.conditioning
      let x := (s.settings .zc).climate
      let weighted := (t - x.tTarget).natAbs * c.kT + (h - x.rhTarget).natAbs * c.kH
      let tenth := s.holdFor (some t) (some h) - c.base
      s.holdFor (some t) (some h) ≤ 720 ∧
      (s.holdFor (some t) (some h) < 720 →
        c.base ≤ s.holdFor (some t) (some h) ∧ weighted ≤ 10 * tenth ∧ 10 * tenth < weighted + 10) ∧
      (s.holdFor (some t) (some h) = 720 → 10 * (720 - c.base) < weighted + 10 ∨ 720 ≤ c.base)) ∧
    (∀ h, s.holdFor none h = 720) ∧ ∀ t, s.holdFor t none = 720

/-- The timers of the handover run out (R54, R73, R74): an OFFERED or ACTIVE manifest closes with TIMEOUT and COURIER_MISSED;
otherwise the identification lapses without an event; the timer stops. An expiry of the handover timer that finds the timer
restarted by a request taken first, with time left, is gone (R92). A CLOSED manifest is freed with FACILITY_MISSED. A timer that
does not run cannot expire, nor can a release timer that has time left (the model's choice, log entry 2). -/
def Obligations.HandoverTimersExpire : Prop :=
  (∀ s : State, s.phase = .running → s.handoverTimer = some 0 →
    (∀ m, s.manifest = some m → m.stage = .offered ∨ m.stage = .active →
      exec .handoverTimerExpiry s = .next ((s.closeWith m .timeout).raise .courierMissed)) ∧
    ((∀ m ∈ s.manifest, m.stage ≠ .offered ∧ m.stage ≠ .active) →
      exec .handoverTimerExpiry s = .next { s with hatch := .idle, handoverTimer := none })) ∧
  (∀ (s : State) (left : Nat), s.handoverTimer = some left → 0 < left → exec .handoverTimerExpiry s = .next s) ∧
  (∀ s : State, s.phase = .running → s.releaseTimer = some 0 →
    exec .releaseTimerExpiry s = .next
      { s with manifest := none, releaseTimer := none, flags := s.flags ||| EventFlag.facilityMissed.mask }) ∧
  (∀ (s : State) (left : Nat), s.releaseTimer = some left → 0 < left → exec .releaseTimerExpiry s = .next s) ∧
  ∀ s : State, (s.handoverTimer = none → exec .handoverTimerExpiry s = .next s) ∧
    (s.releaseTimer = none → exec .releaseTimerExpiry s = .next s)

/-! ## Lines -/

/-- The door (R62 to R64): open while some HATCH_DOOR line is asserted. A change of a HATCH_DOOR line begins an opening, timed
from the hatch open limit in force and HATCH_FORCED under an asserted lock, or ends it, where no other HATCH_DOOR line is
asserted; an opening that reaches its limit raises HATCH_HELD once. (The limit cannot be reached while the door is closed, or
with time left of it: the model's choice, log entry 2.) -/
def Obligations.DoorOpeningsAreSupervised : Prop :=
  (∀ s : State, s.doorOpen = true ↔ ∃ n : Fin 12, s.live.inputs[n] = .hatchDoor ∧ s.levels.getLsbD n.val = true) ∧
  (∀ (s : State) (n : Fin 12) (level : Bool), s.phase = .running → s.live.inputs[n] = .hatchDoor →
    s.levels.getLsbD n.val ≠ level →
    let others := ∃ k : Fin 12, k ≠ n ∧ s.live.inputs[k] = .hatchDoor ∧ s.levels.getLsbD k.val = true
    let t : State := { s with levels := setLevelBit s.levels n level }
    (others → exec (.inputLineChange n level) s = .next t) ∧
    (¬ others → level = false → exec (.inputLineChange n level) s = .next { t with opening := none }) ∧
    (¬ others → level = true → exec (.inputLineChange n level) s = .next
      { t with
        opening := some { left := s.live.timers.openLimit * 1000, held := false }
        flags := if s.lockAsserted then s.flags ||| EventFlag.hatchForced.mask else s.flags })) ∧
  (∀ (s : State) (o : Opening), s.phase = .running → s.opening = some o →
    exec .hatchOpenLimitReached s = .next (if o.held ∨ o.left ≠ 0 then s
      else { s with opening := some { left := 0, held := true }, flags := s.flags ||| EventFlag.hatchHeld.mask })) ∧
  ∀ s : State, s.phase = .running → s.opening = none → exec .hatchOpenLimitReached s = .next s

/-- A change of an input line's debounced level (R150, R153, R155, R181, R182), which is one line's level: a NONE line raises
INPUT_CHANGE as it comes into mismatch; an ABORT line, where no other is asserted, holds every countdown at its full length or
lets it run from there; the abort is asserted while some ABORT line is; a MANUAL_RELEASE line knocks as it becomes asserted; a
BANK_LOW line changes its level alone. A level that the line already has is no change (the model's choice, log entry 2). -/
def Obligations.InputLinesAreTaken : Prop :=
  (∀ s : State, s.abortAsserted = true ↔ ∃ n : Fin 12, s.live.inputs[n] = .abort ∧ s.levels.getLsbD n.val = true) ∧
  (∀ (levels : BitVec 12) (n k : Fin 12) (level : Bool),
    (setLevelBit levels n level).getLsbD k.val = if k = n then level else levels.getLsbD k.val) ∧
  (∀ (s : State) (n : Fin 12) (level : Bool), s.phase = .running → s.levels.getLsbD n.val = level →
    exec (.inputLineChange n level) s = .next s) ∧
  ∀ (s : State) (n : Fin 12) (level : Bool), s.phase = .running → s.levels.getLsbD n.val ≠ level →
    let t : State := { s with levels := setLevelBit s.levels n level }
    (s.live.inputs[n] = .none → exec (.inputLineChange n level) s = .next
      { t with flags := if level = s.live.expected.getLsbD n.val then s.flags else s.flags ||| EventFlag.inputChange.mask }) ∧
    (s.live.inputs[n] = .abort →
      let others := ∃ k : Fin 12, k ≠ n ∧ s.live.inputs[k] = .abort ∧ s.levels.getLsbD k.val = true
      (others → exec (.inputLineChange n level) s = .next t) ∧
      (¬ others → exec (.inputLineChange n level) s = .next
        { t with
          zones := PerZone.tabulate fun z =>
            { s.zones.get z with
              fire := match (s.zones.get z).fire with
                | .countdown _ _ => .countdown (s.live.release.countdown * 1000) level
                | f => f } })) ∧
    (∀ z, s.live.inputs[n] = .manualRelease z →
      exec (.inputLineChange n level) s = .next (if level then t.secondKnock z else t)) ∧
    (s.live.inputs[n] = .bankLow → exec (.inputLineChange n level) s = .next t)

/-- The numbers of the line functions (R181, R183, R184), and the requests on lines (R62, R182 to R184): SET_LINE, SET_EXPECT
and SET_LINE_FUNCTION, their tests in their order. A door line's change of function begins or ends an opening untested for
HATCH_FORCED, and INPUT_CHANGE is raised where a NONE line comes into mismatch. (The level SET_LINE answers is asserted or
deasserted, the model's choice, log entry 15.) -/
def Obligations.LineRequests : Prop :=
  (∀ (function zone : Byte) (f : InputFunction), inputFunctionOf function zone = some f ↔
    match f with
    | .none => function = 0 ∧ zone = 0
    | .hatchDoor => function = 1 ∧ zone = 0
    | .abort => function = 2 ∧ zone = 0
    | .manualRelease z => function = 3 ∧ zone.toNat = z.number
    | .bankLow => function = 4 ∧ zone = 0) ∧
  (∀ (function zone : Byte) (f : OutputFunction), outputFunctionOf function zone = some f ↔
    match f with
    | .none => function = 0 ∧ zone = 0
    | .hatchLock => function = 1 ∧ zone = 0
    | .sounder => function = 2 ∧ zone = 0
    | .predischarge => function = 3 ∧ zone = 0
    | .release z => function = 4 ∧ zone.toNat = z.number
    | .bankRelease => function = 5 ∧ zone = 0) ∧
  (∀ (s : State) (line : Byte) (level : Bool), s.takes .facility (.setLine line level) →
    (lineOf line = none → exec (.setLine line level) s = .next (s.answered .facility 0x55 .badParam [])) ∧
    ∀ n, lineOf line = some n →
      let t : State := { s with live := { s.live with hostLevels := setLevelBit s.live.hostLevels n level } }
      exec (.setLine line level) s = judged s .facility 0x55 [(s.storeBusy, .storeBusy)] t
        [line, if level then 1 else 0, if t.outputAsserted n then 1 else 0]) ∧
  (∀ (s : State) (levels : BitVec 16), s.takes .facility (.setExpect levels) →
    let expected := levels.setWidth 12
    let enters := ∃ n : Fin 12, s.live.inputs[n] = .none ∧ s.levels.getLsbD n.val = s.live.expected.getLsbD n.val ∧
      s.levels.getLsbD n.val ≠ expected.getLsbD n.val
    let t : State := { s with live := { s.live with expected := expected } }
    (enters → exec (.setExpect levels) s = judged s .facility 0x56 [(s.storeBusy, .storeBusy)] (t.raise .inputChange)
      (be16 expected.toNat ++ be16 s.levels.toNat)) ∧
    (¬ enters → exec (.setExpect levels) s = judged s .facility 0x56 [(s.storeBusy, .storeBusy)] t
      (be16 expected.toNat ++ be16 s.levels.toNat))) ∧
  ∀ (s : State) (direction line function zone : Byte), s.takes .facility (.setLineFunction direction line function zone) →
    let tests : List (Bool × Status) :=
      [(Zone.all.any fun z => decide (s.mode z ≠ .offline), .zoneMode), (s.storeBusy, .storeBusy)]
    let results := [direction, line, function, zone]
    (1 < direction.toNat ∨ lineOf line = none ∨ (direction = 0 ∧ inputFunctionOf function zone = none) ∨
        (direction = 1 ∧ outputFunctionOf function zone = none) →
      exec (.setLineFunction direction line function zone) s = .next (s.answered .facility 0x57 .badParam [])) ∧
    (∀ n f, direction = 1 → lineOf line = some n → outputFunctionOf function zone = some f →
      exec (.setLineFunction direction line function zone) s = judged s .facility 0x57 tests
        { s with live := { s.live with outputs := s.live.outputs.set n f } } results) ∧
    ∀ n f, direction = 0 → lineOf line = some n → inputFunctionOf function zone = some f →
      let t : State := { s with live := { s.live with inputs := s.live.inputs.set n f } }
      exec (.setLineFunction direction line function zone) s = judged s .facility 0x57 tests
        { t with
          opening :=
            if t.doorOpen = false then none
            else if s.doorOpen then s.opening
            else some { left := s.live.timers.openLimit * 1000, held := false }
          flags :=
            if f = .none ∧ s.live.inputs[n] ≠ .none ∧ s.levels.getLsbD n.val ≠ s.live.expected.getLsbD n.val
              then s.flags ||| EventFlag.inputChange.mask else s.flags }
        results

/-! ## Climate and conditioning -/

/-- The arithmetic of a good sample (R96, R100): the converted and trimmed values held within their ranges, and the weight, the
humidity excess and twice the temperature excess, which with the settings in their ranges is never above 3700. -/
def Obligations.ReadingsAndWeights : Prop :=
  (∀ (raw : BitVec 12) (trim : Int), convertH raw trim = max 0 (min 1000 (((raw.toNat * 1000 / 4095 : Nat) : Int) + trim)) ∧
    convertT raw trim = max (-400) (min 1250 (((raw.toNat * 1650 / 4095 : Nat) : Int) - 400 + trim))) ∧
  (∀ (c : ClimateSettings) (r : Reading),
    let eh : Int := max 0 (|r.rh - c.rhTarget| - c.rhBand)
    let et : Int := max 0 (|r.t - c.tTarget| - c.tBand)
    (weightOf c r : Int) = eh + 2 * et) ∧
  ∀ (c : ZoneSettings) (counts : RawCounts), c.wf = true →
    weightOf c.climate { t := convertT counts.t c.trims.t, rh := convertH counts.h c.trims.h } ≤ 3700

/-- CLIMATE_SAMPLE (R94, R95, R97, R98, R101 to R104, R111), taken when the zone's sample timer has run down and restarting
it; one that finds time left, a SET_CLIMATE having restarted the timer (R94), is not due and changes nothing (log entry 2). A
sensor fault is counted and holds the reading. A good sample is the zone's FRESH reading with its weight; outside OFFLINE the
dose and the climate state follow, and an entry into EXCURSION marks every record located in the zone; and in a zone that is
ALARMED a heat test that holds is a second knock. -/
def Obligations.ClimateSampleIsAccounted : Prop :=
  (∀ (s : State) (z : Zone) (counts : RawCounts), (s.zones.get z).sampleLeft ≠ 0 →
    exec (.climateSample z counts) s = .next s) ∧
  ∀ (s : State) (z : Zone) (counts : RawCounts), s.phase = .running → (s.zones.get z).sampleLeft = 0 →
    let v := s.zones.get z
    let c := s.settings z
    let p := c.climate.period
    let next (x : Sensor) : PerZone ZoneState := s.zones.set z { v with sensor := x, sampleLeft := p * 1000 }
    let isEnd (n : BitVec 12) : Prop := n.toNat = 0 ∨ n.toNat = 4095
    (isEnd counts.t ∨ isEnd counts.h →
      let count := min 255 (v.sensor.staleCount + 1)
      exec (.climateSample z counts) s = .next
        { s with
          zones := next { v.sensor with
            status := if v.sensor.reading.isSome ∧ count < c.climate.staleLimit then .stale else .unknown
            staleCount := count, lastGood := false, raw := some counts }
          flags := if count = c.climate.staleLimit then s.flags ||| EventFlag.sensorStale.mask else s.flags }) ∧
    (¬ (isEnd counts.t ∨ isEnd counts.h) →
      let reading : Reading := { t := convertT counts.t c.trims.t, rh := convertH counts.h c.trims.h }
      let w := weightOf c.climate reading
      let a := s.ret.climate.get z
      let dose := if 0 < w then min 16777215 (a.dose + w * p) else a.dose - c.climate.recovery * p
      let state : ClimateState :=
        if a.state = .excursion then (if dose = 0 then .nominal else .excursion)
        else if c.climate.exposure ≤ dose then .excursion
        else if c.climate.alert ≤ dose then .alert else .nominal
      let enters := a.state ≠ .excursion ∧ state = .excursion
      let expose (r : Record) : Record :=
        if s.location r = some z then { r with marks := { r.marks with exposed := true } } else r
      let read : State :=
        { s with
          zones := next
            { reading := some reading, status := .fresh, staleCount := 0, lastGood := true, raw := some counts, weight := w } }
      let accounted : State :=
        { read with
          ret := { s.ret with
            climate := s.ret.climate.set z { dose := dose, state := state }
            records := if enters then s.ret.records.map expose else s.ret.records }
          flags := if enters then s.flags ||| EventFlag.climateExcursion.mask
            else if a.state = .nominal ∧ state = .alert then s.flags ||| EventFlag.climateAlert.mask else s.flags }
      let kept := if v.mode = .offline then read else accounted
      let heat := c.release.heatAbs ≤ reading.t ∨
        (v.sensor.lastGood = true ∧ ∃ r, v.sensor.reading = some r ∧ r.t + c.release.heatRise ≤ reading.t)
      (v.fire = .alarmed ∧ heat → exec (.climateSample z counts) s = .next (kept.secondKnock z)) ∧
      (¬ (v.fire = .alarmed ∧ heat) → exec (.climateSample z counts) s = .next kept))

/-- RESET_DOSE, SET_CLIMATE and SET_TRIM (R94, R107, R109, R110): their tests in their order, values held within their ranges; a
SET_CLIMATE restarts the zone's sample timer and a SET_TRIM makes its last sample not good. (That the results of SET_CLIMATE and
SET_TRIM are the values in force without the zone number is deduced, log entry 17.) -/
def Obligations.ClimateRequests : Prop :=
  (∀ (s : State) (zone : Byte), s.takes .facility (.resetDose zone) →
    (zoneOf zone = none → exec (.resetDose zone) s = .next (s.answered .facility 0x34 .badParam [])) ∧
    ∀ z, zoneOf zone = some z → exec (.resetDose zone) s = judged s .facility 0x34 [(decide (s.mode z ≠ .offline), .zoneMode)]
      { s with ret := { s.ret with climate := s.ret.climate.set z { dose := 0, state := .nominal } } } [zone, 0, 0, 0, 0]) ∧
  (∀ (s : State) (zone period stale : Byte) (rh : BitVec 16) (rhBand : Byte) (t : BitVec 16) (tBand recovery : Byte)
    (alert exposure : BitVec 24),
    let request : Instr := .setClimate zone period stale rh rhBand t tBand recovery alert exposure
    s.takes .facility request →
    (zoneOf zone = none → exec request s = .next (s.answered .facility 0x32 .badParam [])) ∧
    ∀ z, zoneOf zone = some z →
      let c : ClimateSettings :=
        { period := max 1 (min 60 period.toNat), staleLimit := max 1 (min 20 stale.toNat)
          rhTarget := min 1000 (rh.toNat : Int), rhBand := min 200 (rhBand.toNat : Int)
          tTarget := max (-100) (min 400 t.toInt), tBand := min 100 (tBand.toNat : Int), recovery := recovery.toNat
          alert := max 1 (min 16777214 alert.toNat), exposure := max 2 exposure.toNat }
      exec request s = judged s .facility 0x32
        [(decide (c.exposure ≤ c.alert), .badParam), (decide (s.mode z ≠ .offline), .zoneMode), (s.storeBusy, .storeBusy)]
        { s with
          live := { s.live with zones := s.live.zones.set z { s.settings z with climate := c } }
          zones := s.zones.set z { s.zones.get z with sampleLeft := c.period * 1000 } }
        ([byteOf c.period, byteOf c.staleLimit] ++ beS16 c.rhTarget ++ beS8 c.rhBand ++ beS16 c.tTarget ++ beS8 c.tBand
          ++ [recovery] ++ be24 c.alert ++ be24 c.exposure)) ∧
  ∀ (s : State) (zone trimT trimH : Byte), s.takes .facility (.setTrim zone trimT trimH) →
    (zoneOf zone = none → exec (.setTrim zone trimT trimH) s = .next (s.answered .facility 0x35 .badParam [])) ∧
    ∀ z, zoneOf zone = some z →
      let v := s.zones.get z
      let x : Trims := { t := max (-50) (min 50 trimT.toInt), h := max (-50) (min 50 trimH.toInt) }
      exec (.setTrim zone trimT trimH) s = judged s .facility 0x35
        [(decide (v.mode ≠ .offline), .zoneMode), (s.storeBusy, .storeBusy)]
        { s with
          live := { s.live with zones := s.live.zones.set z { s.settings z with trims := x } }
          zones := s.zones.set z { v with sensor := { v.sensor with lastGood := false } } }
        (beS8 x.t ++ beS8 x.h)

/-- ELAPSED_MINUTE_TICK (R120 to R122): with ZC FRESH, not in EXCURSION and QUIET every hold falls by 1, the records whose hold
reaches 0 are READY, and HOLD_DONE is raised once if there are any; otherwise no hold changes. The next tick is a minute away
(R185), and before the minute has passed there is none (a tick sent early changes nothing: the model's choice, log entry 2). -/
def Obligations.MinuteTickCountsHolds : Prop :=
  (∀ s : State, s.minuteLeft ≠ 0 → exec .elapsedMinuteTick s = .next s) ∧
  ∀ s : State, s.phase = .running → s.minuteLeft = 0 →
    let gate := (s.zones.get .zc).sensor.status = .fresh ∧ s.climate .zc ≠ .excursion ∧ s.fire .zc = .quiet
    (s.gateOpen = true ↔ gate) ∧
    (¬ gate → exec .elapsedMinuteTick s = .next { s with minuteLeft := 60000 }) ∧
    (gate → ∃ flags, exec .elapsedMinuteTick s = .next
        { s with ret := { s.ret with records := s.ret.records.map Record.minute }, flags := flags, minuteLeft := 60000 } ∧
      ((∃ r ∈ s.ret.records, ∃ hold, r.state = .conditioning hold ∧ hold ≤ 1) →
        flags = s.flags ||| EventFlag.holdDone.mask) ∧
      ((∀ r ∈ s.ret.records, ∀ hold, r.state = .conditioning hold → 1 < hold) → flags = s.flags))

/-! ## Loops -/

/-- The class of a loop value (R128), for thresholds in their order: each class has exactly the values of its row. A loop under
one sample (R129 to R135, R138): its latest value and class, the fault flag that its capture mode lets the sample set, and then
its trouble counter and loop state, or while it is ISOLATED its recovery run; whether it warns, is isolated or recovers; and
whether its policy freezes the zone. -/
def Obligations.LoopFollowsItsSamples : Prop :=
  (∀ (c : LoopSettings) (n : Nat), c.openMax < c.normalMax → c.normalMax < c.alarmMax →
    (classify c n = .openCircuit ↔ n ≤ c.openMax) ∧ (classify c n = .normal ↔ c.openMax < n ∧ n ≤ c.normalMax) ∧
    (classify c n = .alarm ↔ c.normalMax < n ∧ n ≤ c.alarmMax) ∧ (classify c n = .short ↔ c.alarmMax < n)) ∧
  ∀ (l : Loop) (c : LoopSettings) (value : Nat),
    let cls := classify c value
    let f := l.flags
    let catches := c.capture = .all ∨ (f.openSeen = false ∧ f.shortSeen = false ∧ f.alarmSeen = false)
    let seen : FaultFlags :=
      { openSeen := f.openSeen || decide (catches ∧ cls = .openCircuit)
        shortSeen := f.shortSeen || decide (catches ∧ cls = .short)
        alarmSeen := f.alarmSeen || decide (catches ∧ cls = .alarm) }
    let l' : Loop := { l with latest := some (value, cls), flags := seen }
    let standing (n : Nat) : LoopState := if n ≤ 95 then .sound else if n ≤ 127 then .warn else .degraded
    let sound : Loop := { l' with state := .sound, trouble := 0, run := 0, ready := false }
    let counted (n : Nat) : LoopEffect :=
      { quietly { l' with trouble := n, state := standing n } with
        warned := decide (l.state = .sound) && decide (standing n = .warn) }
    let effect := l.sample c value
    (l.state ≠ .isolated →
      (cls = .openCircuit ∨ cls = .short → l.trouble + 8 ≤ 255 → effect = counted (l.trouble + 8)) ∧
      (cls = .openCircuit ∨ cls = .short → 255 < l.trouble + 8 → effect =
        { quietly { l' with trouble := 255, state := .isolated, run := 0 } with
          isolated := true, freezes := decide (c.policy = .freezeAtIsolate) }) ∧
      (cls = .normal → effect = counted (l.trouble - 1)) ∧
      (cls = .alarm → effect = quietly l')) ∧
    (l.state = .isolated →
      (cls ≠ .normal → effect = quietly { l' with run := 0, ready := false }) ∧
      (cls = .normal → l.run < 63 → effect = quietly { l' with run := l.run + 1 }) ∧
      (cls = .normal → 63 ≤ l.run → effect =
        match c.policy with
        | .auto => { quietly sound with recovered := true }
        | .freezeAtRecovery => { quietly sound with recovered := true, freezes := true }
        | .onRequest => quietly { l' with run := 64, ready := true }
        | .freezeAtIsolate => quietly { l' with run := 64 }))

/-- LOOP_SAMPLE (R45, R127, R130, R131, R134, R142): the zone's loop takes the sample, its next one is half a second away, a
freeze takes ONLINE to FROZEN and no other mode, LOOP_WARN, LOOP_ISOLATED and LOOP_RECOVERED are raised, and an ALARM sample
of a loop that was not ISOLATED is handed to the fire sequence. (A sample sent before the half second has passed changes
nothing: the model's choice, log entry 2.) -/
def Obligations.LoopSampleIsTaken : Prop :=
  (∀ (s : State) (z : Zone) (count : BitVec 12), (s.zones.get z).loopLeft ≠ 0 → exec (.loopSample z count) s = .next s) ∧
  ∀ (s : State) (z : Zone) (count : BitVec 12), s.phase = .running → (s.zones.get z).loopLeft = 0 →
    let v := s.zones.get z
    let c := (s.settings z).loop
    let value := count.toNat / 4
    let effect := v.loop.sample c value
    let raised (b : Bool) (f : EventFlag) : BitVec 24 := if b then f.mask else 0
    let t : State :=
      { s with
        zones := s.zones.set z
          { v with
            mode := if effect.freezes = true ∧ v.mode = .online then .frozen else v.mode
            loop := effect.loop
            loopLeft := 500 }
        flags := s.flags ||| raised effect.warned .loopWarn ||| raised effect.isolated .loopIsolated
          ||| raised effect.recovered .loopRecovered }
    (v.loop.state ≠ .isolated ∧ classify c value = .alarm → exec (.loopSample z count) s = .next (t.alarmSample z)) ∧
    (¬ (v.loop.state ≠ .isolated ∧ classify c value = .alarm) → exec (.loopSample z count) s = .next t)

/-- SET_LOOP, LOOP_RETURN and CLEAR_LOOP_FLAGS (R136, R139 to R141): their tests in their order; a new policy other than
ON_REQUEST removes recovery ready; a returned loop is SOUND with its fault flags kept; and the chosen fault flags go. (What a
result holds where the spec tables no layout is the model's choice, log entry 17.) -/
def Obligations.LoopRequests : Prop :=
  (∀ (s : State) (loop : Byte) (openMax normalMax alarmMax : BitVec 16) (policy capture : Byte),
    let request : Instr := .setLoop loop openMax normalMax alarmMax policy capture
    s.takes .facility request →
    (zoneOf loop = none ∨ policyOf policy = none ∨ captureOf capture = none →
      exec request s = .next (s.answered .facility 0x40 .badParam [])) ∧
    ∀ z p m, zoneOf loop = some z → policyOf policy = some p → captureOf capture = some m →
      let c : LoopSettings :=
        { openMax := openMax.toNat, normalMax := normalMax.toNat, alarmMax := alarmMax.toNat, policy := p, capture := m }
      let v := s.zones.get z
      exec request s = judged s .facility 0x40
        [(decide (1023 < openMax.toNat ∨ 1023 < normalMax.toNat ∨ 1023 < alarmMax.toNat), .badParam),
          (decide (¬ (openMax.toNat < normalMax.toNat ∧ normalMax.toNat < alarmMax.toNat)), .badParam),
          (decide (v.mode ≠ .offline), .zoneMode), (s.storeBusy, .storeBusy)]
        { s with
          live := { s.live with zones := s.live.zones.set z { s.settings z with loop := c } }
          zones := s.zones.set z { v with loop := { v.loop with ready := v.loop.ready && decide (p = .onRequest) } } }
        (be16 openMax.toNat ++ be16 normalMax.toNat ++ be16 alarmMax.toNat ++ [policy, capture])) ∧
  (∀ (s : State) (loop : Byte), s.takes .facility (.loopReturn loop) →
    (zoneOf loop = none → exec (.loopReturn loop) s = .next (s.answered .facility 0x41 .badParam [])) ∧
    ∀ z, zoneOf loop = some z →
      let v := s.zones.get z
      exec (.loopReturn loop) s = judged s .facility 0x41 [(decide (v.loop.state ≠ .isolated), .wrongState)]
        { s with
          zones := s.zones.set z { v with loop := { v.loop with state := .sound, trouble := 0, run := 0, ready := false } }
          flags := if (s.settings z).loop.policy = .onRequest ∧ v.loop.ready = true
            then s.flags ||| EventFlag.loopRecovered.mask else s.flags }
        [loop, 0]) ∧
  ∀ (s : State) (loop : Byte) (o h a : Bool), s.takes .facility (.clearLoopFlags loop o h a) →
    (zoneOf loop = none → exec (.clearLoopFlags loop o h a) s = .next (s.answered .facility 0x42 .badParam [])) ∧
    ∀ z, zoneOf loop = some z →
      let v := s.zones.get z
      let f : FaultFlags :=
        { openSeen := v.loop.flags.openSeen && !o, shortSeen := v.loop.flags.shortSeen && !h
          alarmSeen := v.loop.flags.alarmSeen && !a }
      exec (.clearLoopFlags loop o h a) s = .next
        (State.answered { s with zones := s.zones.set z { v with loop := { v.loop with flags := f } } } .facility 0x42 .ok
          [if f.openSeen then 1 else 0, if f.shortSeen then 1 else 0, if f.alarmSeen then 1 else 0])

/-! ## The fire sequence and the bank -/

/-- Knocks (R146 to R149, R151, R152): an ALARM sample takes QUIET to PREALARM with its window and alarm time and PREALARM to
ALARMED, and changes nothing elsewhere; a second knock takes an ALARMED zone with its release enabled and not OFFLINE to
COUNTDOWN, held under an asserted abort, closing an open manifest with FIRE and ending an identification; and the request
MANUAL_RELEASE is such a knock. -/
def Obligations.KnocksMoveTheFireSequence : Prop :=
  (∀ (s : State) (z : Zone),
    let v := s.zones.get z
    (v.fire = .quiet → s.alarmSample z =
      { s with
        zones := s.zones.set z
          { v with
            fire := .prealarm (s.live.release.window * 1000)
            alarmTime := some { value := s.ret.clock, valid := s.ret.clockValid } }
        flags := s.flags ||| EventFlag.zonePrealarm.mask }) ∧
    (∀ left, v.fire = .prealarm left → s.alarmSample z =
      { s with zones := s.zones.set z { v with fire := .alarmed }, flags := s.flags ||| EventFlag.zoneAlarm.mask }) ∧
    ((v.fire ≠ .quiet ∧ ∀ left, v.fire ≠ .prealarm left) → s.alarmSample z = s)) ∧
  (∀ (s : State) (z : Zone),
    let v := s.zones.get z
    let heard := v.fire = .alarmed ∧ (s.settings z).release.enabled = true ∧ v.mode ≠ .offline
    let t : State :=
      { s with
        zones := s.zones.set z { v with fire := .countdown (s.live.release.countdown * 1000) s.abortAsserted }
        flags := s.flags ||| EventFlag.countdown.mask }
    (¬ heard → s.secondKnock z = s) ∧
    (heard → (∀ m, s.manifest = some m → m.stage.isOpen = true → s.secondKnock z = t.closeWith m .fire) ∧
      ((∀ m ∈ s.manifest, m.stage.isOpen = false) →
        (∀ e, s.hatch = .identified e → s.secondKnock z = { t with hatch := .idle, handoverTimer := none }) ∧
        ((∀ e, s.hatch ≠ .identified e) → s.secondKnock z = t)))) ∧
  ∀ (s : State) (zone : Byte), s.takes .facility (.manualRelease zone) →
    (zoneOf zone = none → exec (.manualRelease zone) s = .next (s.answered .facility 0x44 .badParam [])) ∧
    ∀ z, zoneOf zone = some z →
      exec (.manualRelease zone) s = judged s .facility 0x44 [(decide (s.fire z ≠ .alarmed), .wrongState)] (s.secondKnock z)
        [zone, if (s.settings z).release.enabled ∧ s.mode z ≠ .offline then 3 else 2]

/-- The expiries of the fire sequence (R147, R153, R155 to R158): a window returns PREALARM to QUIET; a running countdown commits
an available bank, starts its pulse and marks every record located in the DISCHARGED zone AGENT, or leaves the zone STARVED;
and the end of a pulse leaves the bank SPENT. A held countdown cannot expire; nor can what does not run or has time left, such
as a countdown that the abort's release has restarted (the model's choice, log entry 2). -/
def Obligations.FireTimersExpire : Prop :=
  (∀ (s : State) (z : Zone), s.phase = .running →
    let v := s.zones.get z
    (v.fire = .prealarm 0 →
      exec (.verificationWindowExpiry z) s = .next { s with zones := s.zones.set z { v with fire := .quiet } }) ∧
    (v.fire ≠ .prealarm 0 → exec (.verificationWindowExpiry z) s = .next s)) ∧
  (∀ (s : State) (z : Zone), s.phase = .running →
    let v := s.zones.get z
    let available := s.bank = .ready ∧ ∀ n : Fin 12, s.live.inputs[n] = .bankLow → s.levels.getLsbD n.val = false
    let mark (r : Record) : Record :=
      if s.location r = some z then { r with marks := { r.marks with agent := true } } else r
    (v.fire = .countdown 0 false →
      (available → exec (.countdownExpiry z) s = .next
        { s with
          bank := .committed z (s.live.release.pulse * 1000)
          store := if s.storeBusy then s.store else { s.store with bank := some .spent }
          ret := { s.ret with
            records := s.ret.records.map mark
            pendingBank := if s.storeBusy then some .spent else s.ret.pendingBank }
          zones := s.zones.set z { v with fire := .discharged }
          flags := s.flags ||| EventFlag.discharge.mask }) ∧
      (¬ available → exec (.countdownExpiry z) s = .next
        { s with zones := s.zones.set z { v with fire := .starved }, flags := s.flags ||| EventFlag.bankStarved.mask })) ∧
    (v.fire ≠ .countdown 0 false → exec (.countdownExpiry z) s = .next s)) ∧
  ∀ s : State, s.phase = .running →
    (∀ z, s.bank = .committed z 0 → exec .releasePulseEnd s = .next { s with bank := .spent }) ∧
    ((∀ z, s.bank ≠ .committed z 0) → exec .releasePulseEnd s = .next s)

/-- ABORT_RELEASE, RESET_ALARM, BANK_RELOADED and SET_RELEASE (R154, R159, R160, R164): their tests in their order, and their
effects. (A loop not sampled since start-up keeps RESET_ALARM refused STILL_ACTIVE: deduced, log entry 23. The results of
SET_RELEASE are the values in force without the scope: deduced, log entry 17.) -/
def Obligations.FireRequests : Prop :=
  (∀ f : FireState, f.isCountdown = true ↔ ∃ left held, f = .countdown left held) ∧
  (∀ (s : State) (z : Zone), s.pulseZone = some z ↔ ∃ left, s.bank = .committed z left) ∧
  (∀ (s : State) (zone : Byte), s.takes .facility (.abortRelease zone) →
    (zoneOf zone = none → exec (.abortRelease zone) s = .next (s.answered .facility 0x43 .badParam [])) ∧
    ∀ z, zoneOf zone = some z → exec (.abortRelease zone) s = judged s .facility 0x43
      [(!(s.fire z).isCountdown, .wrongState)]
      { s with zones := s.zones.set z { s.zones.get z with fire := .alarmed } } [zone, 2]) ∧
  (∀ (s : State) (zone : Byte), s.takes .facility (.resetAlarm zone) →
    (zoneOf zone = none → exec (.resetAlarm zone) s = .next (s.answered .facility 0x45 .badParam [])) ∧
    ∀ z, zoneOf zone = some z →
      let v := s.zones.get z
      exec (.resetAlarm zone) s = judged s .facility 0x45
        [(decide (v.fire = .quiet) || v.fire.isCountdown || decide (v.fire = .discharged ∧ s.pulseZone = some z), .wrongState),
          (decide (v.loop.state ≠ .isolated ∧ v.loop.latest.map Prod.snd ≠ some .normal), .stillActive)]
        { s with zones := s.zones.set z { v with fire := .quiet } } [zone, 0]) ∧
  (∀ s : State, s.takes .facility .bankReloaded → exec .bankReloaded s = judged s .facility 0x46
    [(decide (s.bank ≠ .spent), .wrongState), (s.storeBusy, .storeBusy)]
    { s with bank := .ready, store := { s.store with bank := some .ready } } [0]) ∧
  ∀ (s : State) (scope b0 b1 b2 b3 : Byte), s.takes .facility (.setRelease scope b0 b1 b2 b3) →
    (7 < scope.toNat → exec (.setRelease scope b0 b1 b2 b3) s = .next (s.answered .facility 0x47 .badParam [])) ∧
    (scope = 0 →
      let x : ReleaseTimes :=
        { window := max 10 (min 120 b0.toNat), countdown := max 10 (min 60 b1.toNat), pulse := max 1 (min 10 b2.toNat) }
      exec (.setRelease scope b0 b1 b2 b3) s = judged s .facility 0x47
        [(Zone.all.any fun z => decide (s.mode z ≠ .offline), .zoneMode), (s.storeBusy, .storeBusy)]
        { s with live := { s.live with release := x } } [byteOf x.window, byteOf x.countdown, byteOf x.pulse]) ∧
    ∀ z, zoneOf scope = some z →
      let x : ReleaseSettings :=
        { enabled := decide (b0 = 1), heatAbs := max 200 (min 1000 (b1 ++ b2).toInt), heatRise := max 5 (min 200 (b3.toNat : Int)) }
      exec (.setRelease scope b0 b1 b2 b3) s = judged s .facility 0x47
        [(decide (1 < b0.toNat), .badParam), (decide (s.mode z ≠ .offline), .zoneMode), (s.storeBusy, .storeBusy)]
        (s.setSettings z { s.settings z with release := x }) ([b0] ++ beS16 x.heatAbs ++ beS8 x.heatRise)

/-! ## Events and the clock -/

/-- The event flags (R177, R179, R180): the flag of priority p stands at bit p - 1; a cause sets its flag and no other;
CLEAR_EVENTS clears the chosen flags and no other; and ATTN is driven low exactly while the part runs and some flag is both
set and enabled. -/
def Obligations.FlagsAndAttention : Prop :=
  (∀ (s : State) (f : EventFlag) (i : Nat), f.mask.getLsbD i = decide (i + 1 = f.priority) ∧
    s.flag f = s.flags.getLsbD (f.priority - 1)) ∧
  (∀ (s : State) (f g : EventFlag), (s.raise f).flag g = (s.flag g || decide (f = g)) ∧
    (s.raise f) = { s with flags := (s.raise f).flags }) ∧
  (∀ s : State, s.attentionLow = true ↔
    s.phase = .running ∧ ∃ f : EventFlag, s.flag f = true ∧ s.live.enables.getLsbD (f.priority - 1) = true) ∧
  ∀ (s : State) (choice : BitVec 24), s.takes .facility (.clearEvents choice) → ∃ flags : BitVec 24,
    exec (.clearEvents choice) s = .next (State.answered { s with flags := flags } .facility 0x51 .ok (be24 flags.toNat)) ∧
    ∀ i, flags.getLsbD i = (s.flags.getLsbD i && !choice.getLsbD i)

/-- The site clock (R21, R185, R189): SET_CLOCK sets the count, starts the next second and makes the overdue check, as an hour
tick does while the clock is valid; a second raises the count by 1 up to its ceiling, on main power and on a backup supply
that has not failed. (Without main power a backup supply below retention stops the clock: the model's choice, log entry 26. A
second or an hour tick sent before its time changes nothing: the model's choice, log entry 2.) -/
def Obligations.ClockAndOverdueCheck : Prop :=
  (∀ (s : State),
    let late (r : Record) := ∃ courier consignment due, r.state = .out courier consignment due ∧ due ≤ s.ret.clock / 3600
    s.overdueCheck = { s with ret := { s.ret with records := s.overdueCheck.ret.records }, flags := s.overdueCheck.flags } ∧
    s.overdueCheck.ret.records.length = s.ret.records.length ∧
    (∀ (n : Nat) (r : Record), s.ret.records[n]? = some r →
      (late r → s.overdueCheck.ret.records[n]? = some { r with marks := { r.marks with overdue := true } }) ∧
      (¬ late r → s.overdueCheck.ret.records[n]? = some r)) ∧
    ((∃ r ∈ s.ret.records, late r ∧ r.marks.overdue = false) →
      s.overdueCheck.flags = s.flags ||| EventFlag.overdue.mask) ∧
    ((∀ r ∈ s.ret.records, late r → r.marks.overdue = true) → s.overdueCheck.flags = s.flags)) ∧
  (∀ (s : State) (count : BitVec 32), s.takes .facility (.setClock count) →
    let t : State := { s with ret := { s.ret with clock := count.toNat, clockValid := true }, secondLeft := 1000 }
    exec (.setClock count) s = .next (t.overdueCheck.answered .facility 0x53 .ok (be32 count.toNat ++ [1]))) ∧
  (∀ s : State, (s.hourLeft ≠ 0 → exec .elapsedHourTick s = .next s) ∧
    (s.secondLeft ≠ 0 → exec .siteClockSecond s = .next s)) ∧
  (∀ s : State, s.phase = .running → s.hourLeft = 0 →
    (s.ret.clockValid = true → exec .elapsedHourTick s = .next { s.overdueCheck with hourLeft := 3600000 }) ∧
    (s.ret.clockValid = false → exec .elapsedHourTick s = .next { s with hourLeft := 3600000 })) ∧
  ∀ s : State, s.secondLeft = 0 →
    (s.phase ≠ .unpowered ∨ s.monitorFell = false → exec .siteClockSecond s = .next
      { s with ret := { s.ret with clock := min 4294967295 (s.ret.clock + 1) }, secondLeft := 1000 }) ∧
    (s.phase = .unpowered → s.monitorFell = true → exec .siteClockSecond s = .next s)

/-! ## The settings store and start-up -/

/-- The settings store (R187, R188): STORE_SETTINGS begins a write of every live tunable with the valid mark erased, refused
during another; its completion leaves those values stored under the valid mark and makes a pending bank write. (With no write
in progress there is none to complete: the model's choice, log entry 2; the stages of a write: log entry 25.) -/
def Obligations.StoreWritesAreMade : Prop :=
  (∀ s : State, s.storeBusy = true ↔ ∃ x, s.store.writing = some x) ∧
  (∀ s : State, s.takes .facility .storeSettings → exec .storeSettings s = judged s .facility 0x5A [(s.storeBusy, .storeBusy)]
    { s with store := { s.store with valid := false, writing := some s.live } } []) ∧
  (∀ (s : State) (x : Tunables), s.phase = .running → s.store.writing = some x → exec .storeWriteComplete s = .next
    { s with
      store := { stored := x, valid := true, bank := if s.ret.pendingBank.isSome then s.ret.pendingBank else s.store.bank, writing := none }
      ret := { s.ret with pendingBank := none } }) ∧
  ∀ s : State, s.phase = .running → s.store.writing = none → exec .storeWriteComplete s = .next s

/-- The RESET pin and the loss of main power (R27, R172, R187, R189): retained memory stands, a store write under way ends
without the valid mark, and each link hunts and is WAITING; the outputs are low and ATTN released while the part does not run
(R179, R183), and then no frame is received, no sample taken, no line read, no tick counted and no timer expires (R172, R190),
so such an event changes nothing; and the backup monitor records a fall while main power is absent. Each tunable that a cut
write leaves stored is the old one or the new one (R187; which of them is a free value, log entry 8). (That RESET_ASSERT of a
part that has not begun to start, POWER_LOSS without power and a fall of the backup supply under power change nothing is the
model's choice for events that cannot occur, log entry 2; that retained memory stands unread after such a fall is the model's
choice, log entry 13; the rest of the live state is left for start-up, log entry 22.) -/
def Obligations.ResetAndPowerLossStopThePart : Prop :=
  (∀ (s : State) (x : Phase),
    let stored := match s.store.writing with
      | some written => s.store.stored.torn (Config.tornTakesNew s.freeIndex) written
      | none => s.store.stored
    let drawn := if s.storeBusy then s.freeIndex + 1 else s.freeIndex
    let quiet (l : Link) : Link := { l with rx := .hunting, gapLeft := 0, request := .waiting, rateHeld := false }
    let t : State :=
      { s with
        phase := x
        store := { s.store with stored := stored, valid := s.store.valid && !s.storeBusy, writing := none }
        freeIndex := drawn
        fl := quiet s.fl
        hl := quiet s.hl }
    (s.started = true → x = .inReset → exec .resetAssert s = .next t) ∧
    (s.phase ≠ .unpowered → x = .unpowered → exec .powerLoss s = .next t)) ∧
  (∀ (isNew : StoredValue → Bool) (old new : Tunables), (old.torn isNew new).mixOf old new) ∧
  (∀ old new : Tunables, old.torn (fun _ => false) new = old ∧ old.torn (fun _ => true) new = new) ∧
  (∀ s : State, s.started = false → exec .resetAssert s = .next s) ∧
  (∀ s : State, s.phase = .unpowered → exec .powerLoss s = .next s ∧
    exec .backupBelowRetention s = .next { s with monitorFell := true }) ∧
  (∀ s : State, s.phase ≠ .unpowered → exec .backupBelowRetention s = .next s) ∧
  (∀ (s : State) (c : Instr), s.phase ≠ .running → requestOn c = none →
    match c with
    | .resetAssert | .powerLoss | .startUp | .startUpComplete _ _ _ | .backupBelowRetention | .siteClockSecond => True
    | _ => exec c s = .next s) ∧
  ∀ s : State, s.phase ≠ .running → s.attentionLow = false ∧ ∀ n, s.outputHigh n = false

/-- START_UP (R28, R46, R172, R186, R188 to R190): retained memory is kept, or set as after a loss at a power-on whose monitor
recorded one; a pending bank write is made and the bank read; the stored tunables are loaded under the valid mark and the
factory values without it; every STAGED record is reverted; and the rest begins afresh. The values after a loss are those of
R189, the factory values those of section 11.4, and a zone begins as R99, R144 and R145 say. (A STAGED record without a home
slot, in no run there is one, becomes SHELVED without marks: log entry 27. The backup monitor stands until start-up completes:
log entry 13. START_UP of a part that runs or is starting up cannot occur and changes nothing: log entry 2. After a loss of
retained memory the site clock's second goes on as it stood: log entry 29. All four are the model's choice.) -/
def Obligations.StartUpRebuildsThePart : Prop :=
  Retained.afterLoss =
    { records := [], bounds := { b1 := 3, b2 := 7, b3 := 11, b4 := 15, b5 := 19 }, couriers := Vector.replicate 16 none
      climate := PerZone.tabulate fun _ => { dose := 0, state := .nominal }
      clock := 0, clockValid := false, pendingBank := none } ∧
  Tunables.factory =
    { zones := PerZone.tabulate fun _ =>
        { startMode := .offline
          climate :=
            { period := 10, staleLimit := 3, rhTarget := 350, rhBand := 50, tTarget := 180, tBand := 20, recovery := 5
              alert := 2000, exposure := 6000 }
          trims := { t := 0, h := 0 }
          loop := { openMax := 120, normalMax := 480, alarmMax := 860, policy := .auto, capture := .all }
          release := { enabled := true, heatAbs := 570, heatRise := 40 } }
      release := { window := 60, countdown := 30, pulse := 3 }
      conditioning := { kT := 4, kH := 2, base := 30 }
      timers := { handover := 120, release := 300, openLimit := 60 }
      classLimits := Vector.replicate 8 0, enables := 0xFFFFFF, inputs := Vector.replicate 12 .none, expected := 0
      outputs := Vector.replicate 12 .none, hostLevels := 0, facilityDivisor := 63, hatchDivisor := 63 } ∧
  (∀ mode : ZoneMode, ZoneState.atStart mode =
    { mode := mode
      sensor := { reading := none, status := .unknown, staleCount := 0, lastGood := false, raw := none, weight := 0 }
      loop :=
        { state := .sound, trouble := 0, run := 0, ready := false
          flags := { openSeen := false, shortSeen := false, alarmSeen := false }, latest := none }
      fire := .quiet, alarmTime := none, sampleLeft := 0, loopLeft := 0 }) ∧
  (∀ (s : State) (lost : Bool),
    let live := if s.store.valid then s.store.stored else Tunables.factory
    let kept := if lost then Retained.afterLoss else s.ret
    let record := if lost = false ∧ s.ret.pendingBank.isSome then s.ret.pendingBank else s.store.bank
    let link (divisor : BitVec 8) : Link := { rx := .hunting, gapLeft := 0, request := .waiting, rate := divisor, rateHeld := false }
    let t := s.startUp lost
    t = { s with
      phase := .starting lost
      ret := { kept with records := t.ret.records, pendingBank := none }
      store := { s.store with bank := record }
      live := live
      zones := PerZone.tabulate fun z => ZoneState.atStart (live.zones.get z).startMode
      bank := if record = some .committed ∨ record = some .spent then .spent else .ready
      manifest := none
      hatch := .idle
      handoverTimer := none
      releaseTimer := none
      opening := none
      fl := link live.facilityDivisor
      hl := link live.hatchDivisor
      minuteLeft := 60000
      hourLeft := 3600000 } ∧
    t.ret.records = kept.records.map fun r =>
      match r.state, r.home with
      | .staged, some h =>
        { r with
          state := .shelved
          marks := { r.marks with exposed := r.marks.exposed || decide ((kept.climate.get (kept.bounds.zoneOfSlot h)).state = .excursion) } }
      | .staged, none => { r with state := .shelved }
      | _, _ => r) ∧
  ∀ s : State, (s.phase = .unpowered → exec .startUp s = .next (s.startUp s.monitorFell)) ∧
    (s.phase = .inReset → exec .startUp s = .next (s.startUp false)) ∧
    (s.started = true → exec .startUp s = .next s)

/-- START_UP_COMPLETE (R62, R94, R127, R179, R181, R182, R185, R190): the part runs, the debounced levels are the pins', an open
door begins an opening, the ticks count from now, and the flags are RESTARTED, RETAINED_LOST after a loss, and INPUT_CHANGE
where a NONE line is in mismatch; then the first samples are taken, as CLIMATE_SAMPLE and LOOP_SAMPLE take each, and the part is
in service. (Their order, the climate channels and then the loops, is the model's choice, log entry 16; that the backup monitor
forgets a fall here, log entry 13; that START_UP_COMPLETE changes nothing where no start-up is under way, log entry 2.) -/
def Obligations.StartUpCompletes : Prop :=
  (∀ (s : State) (lost : Bool) (pins : BitVec 12) (climate : PerZone RawCounts) (loops : PerZone (BitVec 12)),
    s.phase = .starting lost →
    let isOpen := ∃ n : Fin 12, s.live.inputs[n] = .hatchDoor ∧ pins.getLsbD n.val = true
    let mismatch := ∃ n : Fin 12, s.live.inputs[n] = .none ∧ pins.getLsbD n.val ≠ s.live.expected.getLsbD n.val
    let t : State := { s with phase := .running, monitorFell := false, levels := pins, minuteLeft := 60000, hourLeft := 3600000 }
    let u := s.enterService lost pins
    u = { t with opening := u.opening, flags := u.flags } ∧
    (isOpen → u.opening = some { left := s.live.timers.openLimit * 1000, held := false }) ∧
    (¬ isOpen → u.opening = none) ∧
    (∀ f : EventFlag, u.flag f = true ↔
      f = .restarted ∨ (f = .retainedLost ∧ lost = true) ∨ (f = .inputChange ∧ mismatch)) ∧
    exec (.startUpComplete pins climate loops) s = .next (u.firstSamples climate loops) ∧
    ((∀ z, (s.zones.get z).sampleLeft = 0 ∧ (s.zones.get z).loopLeft = 0) →
      takeAll ((Zone.all.map fun z => .climateSample z (climate.get z)) ++ Zone.all.map fun z => .loopSample z (loops.get z)) u =
        .next (u.firstSamples climate loops))) ∧
  ∀ (s : State) (pins : BitVec 12) (climate : PerZone RawCounts) (loops : PerZone (BitVec 12)), s.startingUp = false →
    exec (.startUpComplete pins climate loops) s = .next s

/-! ## What every step keeps -/

/-- The state after reset satisfies the invariant: retained memory as after a loss, the factory values live, and every block as
a start-up leaves it (R189, R190; the part at its first power-on is the model's choice, log entries 5 and 6). -/
def Obligations.ResetSatisfiesInv : Prop := State.reset.Inv

/-- Every step keeps the custody table and the boundaries in order (R1 to R4, R30, R33): at most 2048 records, each whole and
its own, in strict label order, no slot bound twice; and B1 to B5 never falling. -/
def Obligations.StepKeepsTableAndBounds : Prop :=
  ∀ s t : State, s.Inv → step s = .next t → t.tableWf ∧ t.ret.bounds.wf

/-- Every step keeps the law of marks (R20, R104, R158): every record located in a zone in EXCURSION carries EXPOSED, and every
record located in a DISCHARGED zone carries AGENT. -/
def Obligations.StepKeepsMarks : Prop := ∀ s t : State, s.Inv → step s = .next t → t.marksLaw

/-- Every step keeps the courier table in order (R48, R56), no badge held twice and an entry locked exactly at three failed
attempts, and each link within its frame and request rules and at the rate it is to have (R165 to R168). -/
def Obligations.StepKeepsCouriersAndLinks : Prop :=
  ∀ s t : State, s.Inv → step s = .next t → t.couriersWf ∧ t.linksWf

/-- Every step keeps the STAGED records and the open OUTBOUND manifest's items the same labels (R70). -/
def Obligations.StepKeepsStagedRecords : Prop := ∀ s t : State, s.Inv → step s = .next t → t.stagedLaw

/-- Every step keeps the handover whole (R49, R50, R54, R58, R62, R66 to R68, R73, R76, R88): the manifest's and the link's
couriers are enrolled, an ACTIVE manifest's courier is on the link, no manifest is OFFERED or ACTIVE under COUNTDOWN or
DISCHARGED, and each of HU's timers runs exactly while what it times lasts. -/
def Obligations.StepKeepsHandover : Prop :=
  ∀ s t : State, s.Inv → step s = .next t → t.handoverLaw ∧ t.timersLaw

/-- Every step keeps every zone, and the settings, within their rules (R39, R98, R101, R103, R129, R130, R133, R135, R145, R153,
R187): an EXCURSION only above dose 0, a loop state that follows its counter, no COUNTDOWN in an OFFLINE zone, countdowns held
exactly under an asserted abort, and every live tunable in its range. -/
def Obligations.StepKeepsZonesAndSettings : Prop :=
  ∀ s t : State, s.Inv → step s = .next t → t.zonesWf ∧ t.settingsWf

/-- Every step keeps what is recorded of the bank enough to bring the live bank back after a reset, a COMMITTED one as SPENT
(R155, R156, R188), the committed zone DISCHARGED (R159), and a part in start-up as start-up rebuilt it (R190). -/
def Obligations.StepKeepsBankAndStartUp : Prop :=
  ∀ s t : State, s.Inv → step s = .next t → t.bankLaw ∧ t.startLaw
end

