-- ==== Sys2Proof/Laws/State.lean ====
section
/-! SUPPORT. One lemma for each field of State under each of the shared updates: an update leaves a field as it was, or gives
it the value it says. Later proofs cite these and unfold no record update. -/

namespace Sys2Proof

/-! ### A value for each zone -/

@[simp] theorem PerZone.get_set_same {α : Type} (p : PerZone α) (z : Zone) (a : α) : (p.set z a).get z = a := by
  cases z <;> rfl

theorem PerZone.get_set_ne {α : Type} (p : PerZone α) {z z' : Zone} (a : α) (h : z' ≠ z) : (p.set z a).get z' = p.get z' := by
  cases z <;> cases z' <;> first | rfl | exact absurd rfl h

@[simp] theorem PerZone.get_set {α : Type} (p : PerZone α) (z z' : Zone) (a : α) :
    (p.set z a).get z' = if z' = z then a else p.get z' := by
  by_cases h : z' = z
  · subst h; simp
  · simp [h, PerZone.get_set_ne]

@[simp] theorem PerZone.get_tabulate {α : Type} (f : Zone → α) (z : Zone) : (PerZone.tabulate f).get z = f z := by
  cases z <;> rfl

theorem PerZone.set_get_self {α : Type} (p : PerZone α) (z : Zone) : p.set z (p.get z) = p := by
  cases z <;> rfl

@[simp] theorem PerZone.set_set {α : Type} (p : PerZone α) (z : Zone) (a b : α) : (p.set z a).set z b = p.set z b := by
  cases z <;> rfl

theorem PerZone.ext_get {α : Type} {p q : PerZone α} (h : ∀ z, p.get z = q.get z) : p = q := by
  cases p; cases q
  have h1 := h .z1; have h2 := h .z2; have h3 := h .z3; have h4 := h .z4; have h5 := h .z5; have h6 := h .z6; have h7 := h .zc
  simp_all [PerZone.get]

theorem Zone.mem_all (z : Zone) : z ∈ Zone.all := by cases z <;> decide

end Sys2Proof

namespace Sys2Proof.Machine

open Host

/-! ### A flag is raised -/

@[simp] theorem State.raise_phase (s : State) (f : EventFlag) : (s.raise f).phase = s.phase := rfl
@[simp] theorem State.raise_monitorFell (s : State) (f : EventFlag) : (s.raise f).monitorFell = s.monitorFell := rfl
@[simp] theorem State.raise_ret (s : State) (f : EventFlag) : (s.raise f).ret = s.ret := rfl
@[simp] theorem State.raise_store (s : State) (f : EventFlag) : (s.raise f).store = s.store := rfl
@[simp] theorem State.raise_live (s : State) (f : EventFlag) : (s.raise f).live = s.live := rfl
@[simp] theorem State.raise_zones (s : State) (f : EventFlag) : (s.raise f).zones = s.zones := rfl
@[simp] theorem State.raise_bank (s : State) (f : EventFlag) : (s.raise f).bank = s.bank := rfl
@[simp] theorem State.raise_manifest (s : State) (f : EventFlag) : (s.raise f).manifest = s.manifest := rfl
@[simp] theorem State.raise_hatch (s : State) (f : EventFlag) : (s.raise f).hatch = s.hatch := rfl
@[simp] theorem State.raise_handoverTimer (s : State) (f : EventFlag) : (s.raise f).handoverTimer = s.handoverTimer := rfl
@[simp] theorem State.raise_releaseTimer (s : State) (f : EventFlag) : (s.raise f).releaseTimer = s.releaseTimer := rfl
@[simp] theorem State.raise_opening (s : State) (f : EventFlag) : (s.raise f).opening = s.opening := rfl
@[simp] theorem State.raise_levels (s : State) (f : EventFlag) : (s.raise f).levels = s.levels := rfl
@[simp] theorem State.raise_fl (s : State) (f : EventFlag) : (s.raise f).fl = s.fl := rfl
@[simp] theorem State.raise_hl (s : State) (f : EventFlag) : (s.raise f).hl = s.hl := rfl
@[simp] theorem State.raise_secondLeft (s : State) (f : EventFlag) : (s.raise f).secondLeft = s.secondLeft := rfl
@[simp] theorem State.raise_minuteLeft (s : State) (f : EventFlag) : (s.raise f).minuteLeft = s.minuteLeft := rfl
@[simp] theorem State.raise_hourLeft (s : State) (f : EventFlag) : (s.raise f).hourLeft = s.hourLeft := rfl
@[simp] theorem State.raise_freeIndex (s : State) (f : EventFlag) : (s.raise f).freeIndex = s.freeIndex := rfl
@[simp] theorem State.raise_pending (s : State) (f : EventFlag) : (s.raise f).pending = s.pending := rfl
@[simp] theorem State.raise_flags (s : State) (f : EventFlag) : (s.raise f).flags = s.flags ||| f.mask := rfl

/-! ### A flag is raised under a condition -/

@[simp] theorem State.raiseIf_phase (s : State) (c : Bool) (f : EventFlag) : (s.raiseIf c f).phase = s.phase := by cases c <;> rfl
@[simp] theorem State.raiseIf_monitorFell (s : State) (c : Bool) (f : EventFlag) : (s.raiseIf c f).monitorFell = s.monitorFell :=
  by cases c <;> rfl
@[simp] theorem State.raiseIf_ret (s : State) (c : Bool) (f : EventFlag) : (s.raiseIf c f).ret = s.ret := by cases c <;> rfl
@[simp] theorem State.raiseIf_store (s : State) (c : Bool) (f : EventFlag) : (s.raiseIf c f).store = s.store := by cases c <;> rfl
@[simp] theorem State.raiseIf_live (s : State) (c : Bool) (f : EventFlag) : (s.raiseIf c f).live = s.live := by cases c <;> rfl
@[simp] theorem State.raiseIf_zones (s : State) (c : Bool) (f : EventFlag) : (s.raiseIf c f).zones = s.zones := by cases c <;> rfl
@[simp] theorem State.raiseIf_bank (s : State) (c : Bool) (f : EventFlag) : (s.raiseIf c f).bank = s.bank := by cases c <;> rfl
@[simp] theorem State.raiseIf_manifest (s : State) (c : Bool) (f : EventFlag) : (s.raiseIf c f).manifest = s.manifest := by cases c <;> rfl
@[simp] theorem State.raiseIf_hatch (s : State) (c : Bool) (f : EventFlag) : (s.raiseIf c f).hatch = s.hatch := by cases c <;> rfl
@[simp] theorem State.raiseIf_handoverTimer (s : State) (c : Bool) (f : EventFlag) : (s.raiseIf c f).handoverTimer = s.handoverTimer :=
  by cases c <;> rfl
@[simp] theorem State.raiseIf_releaseTimer (s : State) (c : Bool) (f : EventFlag) : (s.raiseIf c f).releaseTimer = s.releaseTimer :=
  by cases c <;> rfl
@[simp] theorem State.raiseIf_opening (s : State) (c : Bool) (f : EventFlag) : (s.raiseIf c f).opening = s.opening := by cases c <;> rfl
@[simp] theorem State.raiseIf_levels (s : State) (c : Bool) (f : EventFlag) : (s.raiseIf c f).levels = s.levels := by cases c <;> rfl
@[simp] theorem State.raiseIf_fl (s : State) (c : Bool) (f : EventFlag) : (s.raiseIf c f).fl = s.fl := by cases c <;> rfl
@[simp] theorem State.raiseIf_hl (s : State) (c : Bool) (f : EventFlag) : (s.raiseIf c f).hl = s.hl := by cases c <;> rfl
@[simp] theorem State.raiseIf_secondLeft (s : State) (c : Bool) (f : EventFlag) : (s.raiseIf c f).secondLeft = s.secondLeft :=
  by cases c <;> rfl
@[simp] theorem State.raiseIf_minuteLeft (s : State) (c : Bool) (f : EventFlag) : (s.raiseIf c f).minuteLeft = s.minuteLeft :=
  by cases c <;> rfl
@[simp] theorem State.raiseIf_hourLeft (s : State) (c : Bool) (f : EventFlag) : (s.raiseIf c f).hourLeft = s.hourLeft := by cases c <;> rfl
@[simp] theorem State.raiseIf_freeIndex (s : State) (c : Bool) (f : EventFlag) : (s.raiseIf c f).freeIndex = s.freeIndex :=
  by cases c <;> rfl
@[simp] theorem State.raiseIf_pending (s : State) (c : Bool) (f : EventFlag) : (s.raiseIf c f).pending = s.pending := by cases c <;> rfl
@[simp] theorem State.raiseIf_true (s : State) (f : EventFlag) : s.raiseIf true f = s.raise f := rfl
@[simp] theorem State.raiseIf_false (s : State) (f : EventFlag) : s.raiseIf false f = s := rfl
@[simp] theorem State.raiseIf_flags (s : State) (c : Bool) (f : EventFlag) : (s.raiseIf c f).flags = if c then s.flags ||| f.mask else s.flags :=
  by cases c <;> rfl

/-! ### One zone's live state -/

@[simp] theorem State.setZone_phase (s : State) (z : Zone) (v : ZoneState) : (s.setZone z v).phase = s.phase := rfl
@[simp] theorem State.setZone_monitorFell (s : State) (z : Zone) (v : ZoneState) : (s.setZone z v).monitorFell = s.monitorFell :=
  rfl
@[simp] theorem State.setZone_ret (s : State) (z : Zone) (v : ZoneState) : (s.setZone z v).ret = s.ret := rfl
@[simp] theorem State.setZone_store (s : State) (z : Zone) (v : ZoneState) : (s.setZone z v).store = s.store := rfl
@[simp] theorem State.setZone_live (s : State) (z : Zone) (v : ZoneState) : (s.setZone z v).live = s.live := rfl
@[simp] theorem State.setZone_bank (s : State) (z : Zone) (v : ZoneState) : (s.setZone z v).bank = s.bank := rfl
@[simp] theorem State.setZone_manifest (s : State) (z : Zone) (v : ZoneState) : (s.setZone z v).manifest = s.manifest := rfl
@[simp] theorem State.setZone_hatch (s : State) (z : Zone) (v : ZoneState) : (s.setZone z v).hatch = s.hatch := rfl
@[simp] theorem State.setZone_handoverTimer (s : State) (z : Zone) (v : ZoneState) : (s.setZone z v).handoverTimer = s.handoverTimer :=
  rfl
@[simp] theorem State.setZone_releaseTimer (s : State) (z : Zone) (v : ZoneState) : (s.setZone z v).releaseTimer = s.releaseTimer :=
  rfl
@[simp] theorem State.setZone_opening (s : State) (z : Zone) (v : ZoneState) : (s.setZone z v).opening = s.opening := rfl
@[simp] theorem State.setZone_levels (s : State) (z : Zone) (v : ZoneState) : (s.setZone z v).levels = s.levels := rfl
@[simp] theorem State.setZone_flags (s : State) (z : Zone) (v : ZoneState) : (s.setZone z v).flags = s.flags := rfl
@[simp] theorem State.setZone_fl (s : State) (z : Zone) (v : ZoneState) : (s.setZone z v).fl = s.fl := rfl
@[simp] theorem State.setZone_hl (s : State) (z : Zone) (v : ZoneState) : (s.setZone z v).hl = s.hl := rfl
@[simp] theorem State.setZone_secondLeft (s : State) (z : Zone) (v : ZoneState) : (s.setZone z v).secondLeft = s.secondLeft :=
  rfl
@[simp] theorem State.setZone_minuteLeft (s : State) (z : Zone) (v : ZoneState) : (s.setZone z v).minuteLeft = s.minuteLeft :=
  rfl
@[simp] theorem State.setZone_hourLeft (s : State) (z : Zone) (v : ZoneState) : (s.setZone z v).hourLeft = s.hourLeft := rfl
@[simp] theorem State.setZone_freeIndex (s : State) (z : Zone) (v : ZoneState) : (s.setZone z v).freeIndex = s.freeIndex :=
  rfl
@[simp] theorem State.setZone_pending (s : State) (z : Zone) (v : ZoneState) : (s.setZone z v).pending = s.pending := rfl
@[simp] theorem State.setZone_zones (s : State) (z : Zone) (v : ZoneState) : (s.setZone z v).zones = s.zones.set z v := rfl

/-! ### One zone's mode -/

@[simp] theorem State.setMode_phase (s : State) (z : Zone) (m : ZoneMode) : (s.setMode z m).phase = s.phase := rfl
@[simp] theorem State.setMode_monitorFell (s : State) (z : Zone) (m : ZoneMode) : (s.setMode z m).monitorFell = s.monitorFell :=
  rfl
@[simp] theorem State.setMode_ret (s : State) (z : Zone) (m : ZoneMode) : (s.setMode z m).ret = s.ret := rfl
@[simp] theorem State.setMode_store (s : State) (z : Zone) (m : ZoneMode) : (s.setMode z m).store = s.store := rfl
@[simp] theorem State.setMode_live (s : State) (z : Zone) (m : ZoneMode) : (s.setMode z m).live = s.live := rfl
@[simp] theorem State.setMode_bank (s : State) (z : Zone) (m : ZoneMode) : (s.setMode z m).bank = s.bank := rfl
@[simp] theorem State.setMode_manifest (s : State) (z : Zone) (m : ZoneMode) : (s.setMode z m).manifest = s.manifest := rfl
@[simp] theorem State.setMode_hatch (s : State) (z : Zone) (m : ZoneMode) : (s.setMode z m).hatch = s.hatch := rfl
@[simp] theorem State.setMode_handoverTimer (s : State) (z : Zone) (m : ZoneMode) : (s.setMode z m).handoverTimer = s.handoverTimer :=
  rfl
@[simp] theorem State.setMode_releaseTimer (s : State) (z : Zone) (m : ZoneMode) : (s.setMode z m).releaseTimer = s.releaseTimer :=
  rfl
@[simp] theorem State.setMode_opening (s : State) (z : Zone) (m : ZoneMode) : (s.setMode z m).opening = s.opening := rfl
@[simp] theorem State.setMode_levels (s : State) (z : Zone) (m : ZoneMode) : (s.setMode z m).levels = s.levels := rfl
@[simp] theorem State.setMode_flags (s : State) (z : Zone) (m : ZoneMode) : (s.setMode z m).flags = s.flags := rfl
@[simp] theorem State.setMode_fl (s : State) (z : Zone) (m : ZoneMode) : (s.setMode z m).fl = s.fl := rfl
@[simp] theorem State.setMode_hl (s : State) (z : Zone) (m : ZoneMode) : (s.setMode z m).hl = s.hl := rfl
@[simp] theorem State.setMode_secondLeft (s : State) (z : Zone) (m : ZoneMode) : (s.setMode z m).secondLeft = s.secondLeft :=
  rfl
@[simp] theorem State.setMode_minuteLeft (s : State) (z : Zone) (m : ZoneMode) : (s.setMode z m).minuteLeft = s.minuteLeft :=
  rfl
@[simp] theorem State.setMode_hourLeft (s : State) (z : Zone) (m : ZoneMode) : (s.setMode z m).hourLeft = s.hourLeft := rfl
@[simp] theorem State.setMode_freeIndex (s : State) (z : Zone) (m : ZoneMode) : (s.setMode z m).freeIndex = s.freeIndex := rfl
@[simp] theorem State.setMode_pending (s : State) (z : Zone) (m : ZoneMode) : (s.setMode z m).pending = s.pending := rfl

/-! ### One zone's fire state -/

@[simp] theorem State.setFire_phase (s : State) (z : Zone) (f : FireState) : (s.setFire z f).phase = s.phase := rfl
@[simp] theorem State.setFire_monitorFell (s : State) (z : Zone) (f : FireState) : (s.setFire z f).monitorFell = s.monitorFell :=
  rfl
@[simp] theorem State.setFire_ret (s : State) (z : Zone) (f : FireState) : (s.setFire z f).ret = s.ret := rfl
@[simp] theorem State.setFire_store (s : State) (z : Zone) (f : FireState) : (s.setFire z f).store = s.store := rfl
@[simp] theorem State.setFire_live (s : State) (z : Zone) (f : FireState) : (s.setFire z f).live = s.live := rfl
@[simp] theorem State.setFire_bank (s : State) (z : Zone) (f : FireState) : (s.setFire z f).bank = s.bank := rfl
@[simp] theorem State.setFire_manifest (s : State) (z : Zone) (f : FireState) : (s.setFire z f).manifest = s.manifest := rfl
@[simp] theorem State.setFire_hatch (s : State) (z : Zone) (f : FireState) : (s.setFire z f).hatch = s.hatch := rfl
@[simp] theorem State.setFire_handoverTimer (s : State) (z : Zone) (f : FireState) : (s.setFire z f).handoverTimer = s.handoverTimer :=
  rfl
@[simp] theorem State.setFire_releaseTimer (s : State) (z : Zone) (f : FireState) : (s.setFire z f).releaseTimer = s.releaseTimer :=
  rfl
@[simp] theorem State.setFire_opening (s : State) (z : Zone) (f : FireState) : (s.setFire z f).opening = s.opening := rfl
@[simp] theorem State.setFire_levels (s : State) (z : Zone) (f : FireState) : (s.setFire z f).levels = s.levels := rfl
@[simp] theorem State.setFire_flags (s : State) (z : Zone) (f : FireState) : (s.setFire z f).flags = s.flags := rfl
@[simp] theorem State.setFire_fl (s : State) (z : Zone) (f : FireState) : (s.setFire z f).fl = s.fl := rfl
@[simp] theorem State.setFire_hl (s : State) (z : Zone) (f : FireState) : (s.setFire z f).hl = s.hl := rfl
@[simp] theorem State.setFire_secondLeft (s : State) (z : Zone) (f : FireState) : (s.setFire z f).secondLeft = s.secondLeft :=
  rfl
@[simp] theorem State.setFire_minuteLeft (s : State) (z : Zone) (f : FireState) : (s.setFire z f).minuteLeft = s.minuteLeft :=
  rfl
@[simp] theorem State.setFire_hourLeft (s : State) (z : Zone) (f : FireState) : (s.setFire z f).hourLeft = s.hourLeft := rfl
@[simp] theorem State.setFire_freeIndex (s : State) (z : Zone) (f : FireState) : (s.setFire z f).freeIndex = s.freeIndex :=
  rfl
@[simp] theorem State.setFire_pending (s : State) (z : Zone) (f : FireState) : (s.setFire z f).pending = s.pending := rfl

/-! ### One zone's loop -/

@[simp] theorem State.setLoop_phase (s : State) (z : Zone) (l : Loop) : (s.setLoop z l).phase = s.phase := rfl
@[simp] theorem State.setLoop_monitorFell (s : State) (z : Zone) (l : Loop) : (s.setLoop z l).monitorFell = s.monitorFell :=
  rfl
@[simp] theorem State.setLoop_ret (s : State) (z : Zone) (l : Loop) : (s.setLoop z l).ret = s.ret := rfl
@[simp] theorem State.setLoop_store (s : State) (z : Zone) (l : Loop) : (s.setLoop z l).store = s.store := rfl
@[simp] theorem State.setLoop_live (s : State) (z : Zone) (l : Loop) : (s.setLoop z l).live = s.live := rfl
@[simp] theorem State.setLoop_bank (s : State) (z : Zone) (l : Loop) : (s.setLoop z l).bank = s.bank := rfl
@[simp] theorem State.setLoop_manifest (s : State) (z : Zone) (l : Loop) : (s.setLoop z l).manifest = s.manifest := rfl
@[simp] theorem State.setLoop_hatch (s : State) (z : Zone) (l : Loop) : (s.setLoop z l).hatch = s.hatch := rfl
@[simp] theorem State.setLoop_handoverTimer (s : State) (z : Zone) (l : Loop) : (s.setLoop z l).handoverTimer = s.handoverTimer :=
  rfl
@[simp] theorem State.setLoop_releaseTimer (s : State) (z : Zone) (l : Loop) : (s.setLoop z l).releaseTimer = s.releaseTimer :=
  rfl
@[simp] theorem State.setLoop_opening (s : State) (z : Zone) (l : Loop) : (s.setLoop z l).opening = s.opening := rfl
@[simp] theorem State.setLoop_levels (s : State) (z : Zone) (l : Loop) : (s.setLoop z l).levels = s.levels := rfl
@[simp] theorem State.setLoop_flags (s : State) (z : Zone) (l : Loop) : (s.setLoop z l).flags = s.flags := rfl
@[simp] theorem State.setLoop_fl (s : State) (z : Zone) (l : Loop) : (s.setLoop z l).fl = s.fl := rfl
@[simp] theorem State.setLoop_hl (s : State) (z : Zone) (l : Loop) : (s.setLoop z l).hl = s.hl := rfl
@[simp] theorem State.setLoop_secondLeft (s : State) (z : Zone) (l : Loop) : (s.setLoop z l).secondLeft = s.secondLeft := rfl
@[simp] theorem State.setLoop_minuteLeft (s : State) (z : Zone) (l : Loop) : (s.setLoop z l).minuteLeft = s.minuteLeft := rfl
@[simp] theorem State.setLoop_hourLeft (s : State) (z : Zone) (l : Loop) : (s.setLoop z l).hourLeft = s.hourLeft := rfl
@[simp] theorem State.setLoop_freeIndex (s : State) (z : Zone) (l : Loop) : (s.setLoop z l).freeIndex = s.freeIndex := rfl
@[simp] theorem State.setLoop_pending (s : State) (z : Zone) (l : Loop) : (s.setLoop z l).pending = s.pending := rfl

/-! ### One zone's climate account -/

@[simp] theorem State.setAccount_phase (s : State) (z : Zone) (a : ClimateAccount) : (s.setAccount z a).phase = s.phase := rfl
@[simp] theorem State.setAccount_monitorFell (s : State) (z : Zone) (a : ClimateAccount) : (s.setAccount z a).monitorFell = s.monitorFell :=
  rfl
@[simp] theorem State.setAccount_store (s : State) (z : Zone) (a : ClimateAccount) : (s.setAccount z a).store = s.store := rfl
@[simp] theorem State.setAccount_live (s : State) (z : Zone) (a : ClimateAccount) : (s.setAccount z a).live = s.live := rfl
@[simp] theorem State.setAccount_zones (s : State) (z : Zone) (a : ClimateAccount) : (s.setAccount z a).zones = s.zones := rfl
@[simp] theorem State.setAccount_bank (s : State) (z : Zone) (a : ClimateAccount) : (s.setAccount z a).bank = s.bank := rfl
@[simp] theorem State.setAccount_manifest (s : State) (z : Zone) (a : ClimateAccount) : (s.setAccount z a).manifest = s.manifest :=
  rfl
@[simp] theorem State.setAccount_hatch (s : State) (z : Zone) (a : ClimateAccount) : (s.setAccount z a).hatch = s.hatch := rfl
@[simp] theorem State.setAccount_handoverTimer (s : State) (z : Zone) (a : ClimateAccount) : (s.setAccount z a).handoverTimer = s.handoverTimer :=
  rfl
@[simp] theorem State.setAccount_releaseTimer (s : State) (z : Zone) (a : ClimateAccount) : (s.setAccount z a).releaseTimer = s.releaseTimer :=
  rfl
@[simp] theorem State.setAccount_opening (s : State) (z : Zone) (a : ClimateAccount) : (s.setAccount z a).opening = s.opening :=
  rfl
@[simp] theorem State.setAccount_levels (s : State) (z : Zone) (a : ClimateAccount) : (s.setAccount z a).levels = s.levels :=
  rfl
@[simp] theorem State.setAccount_flags (s : State) (z : Zone) (a : ClimateAccount) : (s.setAccount z a).flags = s.flags := rfl
@[simp] theorem State.setAccount_fl (s : State) (z : Zone) (a : ClimateAccount) : (s.setAccount z a).fl = s.fl := rfl
@[simp] theorem State.setAccount_hl (s : State) (z : Zone) (a : ClimateAccount) : (s.setAccount z a).hl = s.hl := rfl
@[simp] theorem State.setAccount_secondLeft (s : State) (z : Zone) (a : ClimateAccount) : (s.setAccount z a).secondLeft = s.secondLeft :=
  rfl
@[simp] theorem State.setAccount_minuteLeft (s : State) (z : Zone) (a : ClimateAccount) : (s.setAccount z a).minuteLeft = s.minuteLeft :=
  rfl
@[simp] theorem State.setAccount_hourLeft (s : State) (z : Zone) (a : ClimateAccount) : (s.setAccount z a).hourLeft = s.hourLeft :=
  rfl
@[simp] theorem State.setAccount_freeIndex (s : State) (z : Zone) (a : ClimateAccount) : (s.setAccount z a).freeIndex = s.freeIndex :=
  rfl
@[simp] theorem State.setAccount_pending (s : State) (z : Zone) (a : ClimateAccount) : (s.setAccount z a).pending = s.pending :=
  rfl
@[simp] theorem State.setAccount_ret_records (s : State) (z : Zone) (a : ClimateAccount) : (s.setAccount z a).ret.records = s.ret.records :=
  rfl
@[simp] theorem State.setAccount_ret_bounds (s : State) (z : Zone) (a : ClimateAccount) : (s.setAccount z a).ret.bounds = s.ret.bounds :=
  rfl
@[simp] theorem State.setAccount_ret_couriers (s : State) (z : Zone) (a : ClimateAccount) : (s.setAccount z a).ret.couriers = s.ret.couriers :=
  rfl
@[simp] theorem State.setAccount_ret_clock (s : State) (z : Zone) (a : ClimateAccount) : (s.setAccount z a).ret.clock = s.ret.clock :=
  rfl
@[simp] theorem State.setAccount_ret_clockValid (s : State) (z : Zone) (a : ClimateAccount) : (s.setAccount z a).ret.clockValid = s.ret.clockValid :=
  rfl
@[simp] theorem State.setAccount_ret_pendingBank (s : State) (z : Zone) (a : ClimateAccount) : (s.setAccount z a).ret.pendingBank = s.ret.pendingBank :=
  rfl
@[simp] theorem State.setAccount_ret_climate (s : State) (z : Zone) (a : ClimateAccount) : (s.setAccount z a).ret.climate = s.ret.climate.set z a :=
  rfl

/-! ### One zone's settings -/

@[simp] theorem State.setSettings_phase (s : State) (z : Zone) (v : ZoneSettings) : (s.setSettings z v).phase = s.phase := rfl
@[simp] theorem State.setSettings_monitorFell (s : State) (z : Zone) (v : ZoneSettings) : (s.setSettings z v).monitorFell = s.monitorFell :=
  rfl
@[simp] theorem State.setSettings_ret (s : State) (z : Zone) (v : ZoneSettings) : (s.setSettings z v).ret = s.ret := rfl
@[simp] theorem State.setSettings_store (s : State) (z : Zone) (v : ZoneSettings) : (s.setSettings z v).store = s.store := rfl
@[simp] theorem State.setSettings_zones (s : State) (z : Zone) (v : ZoneSettings) : (s.setSettings z v).zones = s.zones := rfl
@[simp] theorem State.setSettings_bank (s : State) (z : Zone) (v : ZoneSettings) : (s.setSettings z v).bank = s.bank := rfl
@[simp] theorem State.setSettings_manifest (s : State) (z : Zone) (v : ZoneSettings) : (s.setSettings z v).manifest = s.manifest :=
  rfl
@[simp] theorem State.setSettings_hatch (s : State) (z : Zone) (v : ZoneSettings) : (s.setSettings z v).hatch = s.hatch := rfl
@[simp] theorem State.setSettings_handoverTimer (s : State) (z : Zone) (v : ZoneSettings) : (s.setSettings z v).handoverTimer = s.handoverTimer :=
  rfl
@[simp] theorem State.setSettings_releaseTimer (s : State) (z : Zone) (v : ZoneSettings) : (s.setSettings z v).releaseTimer = s.releaseTimer :=
  rfl
@[simp] theorem State.setSettings_opening (s : State) (z : Zone) (v : ZoneSettings) : (s.setSettings z v).opening = s.opening :=
  rfl
@[simp] theorem State.setSettings_levels (s : State) (z : Zone) (v : ZoneSettings) : (s.setSettings z v).levels = s.levels :=
  rfl
@[simp] theorem State.setSettings_flags (s : State) (z : Zone) (v : ZoneSettings) : (s.setSettings z v).flags = s.flags := rfl
@[simp] theorem State.setSettings_fl (s : State) (z : Zone) (v : ZoneSettings) : (s.setSettings z v).fl = s.fl := rfl
@[simp] theorem State.setSettings_hl (s : State) (z : Zone) (v : ZoneSettings) : (s.setSettings z v).hl = s.hl := rfl
@[simp] theorem State.setSettings_secondLeft (s : State) (z : Zone) (v : ZoneSettings) : (s.setSettings z v).secondLeft = s.secondLeft :=
  rfl
@[simp] theorem State.setSettings_minuteLeft (s : State) (z : Zone) (v : ZoneSettings) : (s.setSettings z v).minuteLeft = s.minuteLeft :=
  rfl
@[simp] theorem State.setSettings_hourLeft (s : State) (z : Zone) (v : ZoneSettings) : (s.setSettings z v).hourLeft = s.hourLeft :=
  rfl
@[simp] theorem State.setSettings_freeIndex (s : State) (z : Zone) (v : ZoneSettings) : (s.setSettings z v).freeIndex = s.freeIndex :=
  rfl
@[simp] theorem State.setSettings_pending (s : State) (z : Zone) (v : ZoneSettings) : (s.setSettings z v).pending = s.pending :=
  rfl
@[simp] theorem State.setSettings_live_release (s : State) (z : Zone) (v : ZoneSettings) : (s.setSettings z v).live.release = s.live.release :=
  rfl
@[simp] theorem State.setSettings_live_conditioning (s : State) (z : Zone) (v : ZoneSettings) : (s.setSettings z v).live.conditioning = s.live.conditioning :=
  rfl
@[simp] theorem State.setSettings_live_timers (s : State) (z : Zone) (v : ZoneSettings) : (s.setSettings z v).live.timers = s.live.timers :=
  rfl
@[simp] theorem State.setSettings_live_classLimits (s : State) (z : Zone) (v : ZoneSettings) : (s.setSettings z v).live.classLimits = s.live.classLimits :=
  rfl
@[simp] theorem State.setSettings_live_enables (s : State) (z : Zone) (v : ZoneSettings) : (s.setSettings z v).live.enables = s.live.enables :=
  rfl
@[simp] theorem State.setSettings_live_inputs (s : State) (z : Zone) (v : ZoneSettings) : (s.setSettings z v).live.inputs = s.live.inputs :=
  rfl
@[simp] theorem State.setSettings_live_expected (s : State) (z : Zone) (v : ZoneSettings) : (s.setSettings z v).live.expected = s.live.expected :=
  rfl
@[simp] theorem State.setSettings_live_outputs (s : State) (z : Zone) (v : ZoneSettings) : (s.setSettings z v).live.outputs = s.live.outputs :=
  rfl
@[simp] theorem State.setSettings_live_hostLevels (s : State) (z : Zone) (v : ZoneSettings) : (s.setSettings z v).live.hostLevels = s.live.hostLevels :=
  rfl
@[simp] theorem State.setSettings_live_facilityDivisor (s : State) (z : Zone) (v : ZoneSettings) : (s.setSettings z v).live.facilityDivisor = s.live.facilityDivisor :=
  rfl
@[simp] theorem State.setSettings_live_hatchDivisor (s : State) (z : Zone) (v : ZoneSettings) : (s.setSettings z v).live.hatchDivisor = s.live.hatchDivisor :=
  rfl
@[simp] theorem State.setSettings_live_zones (s : State) (z : Zone) (v : ZoneSettings) : (s.setSettings z v).live.zones = s.live.zones.set z v :=
  rfl

/-! ### The custody table -/

@[simp] theorem State.setRecords_phase (s : State) (rs : List Record) : (s.setRecords rs).phase = s.phase := rfl
@[simp] theorem State.setRecords_monitorFell (s : State) (rs : List Record) : (s.setRecords rs).monitorFell = s.monitorFell :=
  rfl
@[simp] theorem State.setRecords_store (s : State) (rs : List Record) : (s.setRecords rs).store = s.store := rfl
@[simp] theorem State.setRecords_live (s : State) (rs : List Record) : (s.setRecords rs).live = s.live := rfl
@[simp] theorem State.setRecords_zones (s : State) (rs : List Record) : (s.setRecords rs).zones = s.zones := rfl
@[simp] theorem State.setRecords_bank (s : State) (rs : List Record) : (s.setRecords rs).bank = s.bank := rfl
@[simp] theorem State.setRecords_manifest (s : State) (rs : List Record) : (s.setRecords rs).manifest = s.manifest := rfl
@[simp] theorem State.setRecords_hatch (s : State) (rs : List Record) : (s.setRecords rs).hatch = s.hatch := rfl
@[simp] theorem State.setRecords_handoverTimer (s : State) (rs : List Record) : (s.setRecords rs).handoverTimer = s.handoverTimer :=
  rfl
@[simp] theorem State.setRecords_releaseTimer (s : State) (rs : List Record) : (s.setRecords rs).releaseTimer = s.releaseTimer :=
  rfl
@[simp] theorem State.setRecords_opening (s : State) (rs : List Record) : (s.setRecords rs).opening = s.opening := rfl
@[simp] theorem State.setRecords_levels (s : State) (rs : List Record) : (s.setRecords rs).levels = s.levels := rfl
@[simp] theorem State.setRecords_flags (s : State) (rs : List Record) : (s.setRecords rs).flags = s.flags := rfl
@[simp] theorem State.setRecords_fl (s : State) (rs : List Record) : (s.setRecords rs).fl = s.fl := rfl
@[simp] theorem State.setRecords_hl (s : State) (rs : List Record) : (s.setRecords rs).hl = s.hl := rfl
@[simp] theorem State.setRecords_secondLeft (s : State) (rs : List Record) : (s.setRecords rs).secondLeft = s.secondLeft :=
  rfl
@[simp] theorem State.setRecords_minuteLeft (s : State) (rs : List Record) : (s.setRecords rs).minuteLeft = s.minuteLeft :=
  rfl
@[simp] theorem State.setRecords_hourLeft (s : State) (rs : List Record) : (s.setRecords rs).hourLeft = s.hourLeft := rfl
@[simp] theorem State.setRecords_freeIndex (s : State) (rs : List Record) : (s.setRecords rs).freeIndex = s.freeIndex := rfl
@[simp] theorem State.setRecords_pending (s : State) (rs : List Record) : (s.setRecords rs).pending = s.pending := rfl
@[simp] theorem State.setRecords_ret_bounds (s : State) (rs : List Record) : (s.setRecords rs).ret.bounds = s.ret.bounds :=
  rfl
@[simp] theorem State.setRecords_ret_couriers (s : State) (rs : List Record) : (s.setRecords rs).ret.couriers = s.ret.couriers :=
  rfl
@[simp] theorem State.setRecords_ret_climate (s : State) (rs : List Record) : (s.setRecords rs).ret.climate = s.ret.climate :=
  rfl
@[simp] theorem State.setRecords_ret_clock (s : State) (rs : List Record) : (s.setRecords rs).ret.clock = s.ret.clock := rfl
@[simp] theorem State.setRecords_ret_clockValid (s : State) (rs : List Record) : (s.setRecords rs).ret.clockValid = s.ret.clockValid :=
  rfl
@[simp] theorem State.setRecords_ret_pendingBank (s : State) (rs : List Record) : (s.setRecords rs).ret.pendingBank = s.ret.pendingBank :=
  rfl
@[simp] theorem State.setRecords_ret_records (s : State) (rs : List Record) : (s.setRecords rs).ret.records = rs := rfl

/-! ### The record of a label -/

@[simp] theorem State.modifyRecord_phase (s : State) (l : Label) (f : Record → Record) : (s.modifyRecord l f).phase = s.phase :=
  rfl
@[simp] theorem State.modifyRecord_monitorFell (s : State) (l : Label) (f : Record → Record) : (s.modifyRecord l f).monitorFell = s.monitorFell :=
  rfl
@[simp] theorem State.modifyRecord_store (s : State) (l : Label) (f : Record → Record) : (s.modifyRecord l f).store = s.store :=
  rfl
@[simp] theorem State.modifyRecord_live (s : State) (l : Label) (f : Record → Record) : (s.modifyRecord l f).live = s.live :=
  rfl
@[simp] theorem State.modifyRecord_zones (s : State) (l : Label) (f : Record → Record) : (s.modifyRecord l f).zones = s.zones :=
  rfl
@[simp] theorem State.modifyRecord_bank (s : State) (l : Label) (f : Record → Record) : (s.modifyRecord l f).bank = s.bank :=
  rfl
@[simp] theorem State.modifyRecord_manifest (s : State) (l : Label) (f : Record → Record) : (s.modifyRecord l f).manifest = s.manifest :=
  rfl
@[simp] theorem State.modifyRecord_hatch (s : State) (l : Label) (f : Record → Record) : (s.modifyRecord l f).hatch = s.hatch :=
  rfl
@[simp] theorem State.modifyRecord_handoverTimer (s : State) (l : Label) (f : Record → Record) : (s.modifyRecord l f).handoverTimer = s.handoverTimer :=
  rfl
@[simp] theorem State.modifyRecord_releaseTimer (s : State) (l : Label) (f : Record → Record) : (s.modifyRecord l f).releaseTimer = s.releaseTimer :=
  rfl
@[simp] theorem State.modifyRecord_opening (s : State) (l : Label) (f : Record → Record) : (s.modifyRecord l f).opening = s.opening :=
  rfl
@[simp] theorem State.modifyRecord_levels (s : State) (l : Label) (f : Record → Record) : (s.modifyRecord l f).levels = s.levels :=
  rfl
@[simp] theorem State.modifyRecord_flags (s : State) (l : Label) (f : Record → Record) : (s.modifyRecord l f).flags = s.flags :=
  rfl
@[simp] theorem State.modifyRecord_fl (s : State) (l : Label) (f : Record → Record) : (s.modifyRecord l f).fl = s.fl := rfl
@[simp] theorem State.modifyRecord_hl (s : State) (l : Label) (f : Record → Record) : (s.modifyRecord l f).hl = s.hl := rfl
@[simp] theorem State.modifyRecord_secondLeft (s : State) (l : Label) (f : Record → Record) : (s.modifyRecord l f).secondLeft = s.secondLeft :=
  rfl
@[simp] theorem State.modifyRecord_minuteLeft (s : State) (l : Label) (f : Record → Record) : (s.modifyRecord l f).minuteLeft = s.minuteLeft :=
  rfl
@[simp] theorem State.modifyRecord_hourLeft (s : State) (l : Label) (f : Record → Record) : (s.modifyRecord l f).hourLeft = s.hourLeft :=
  rfl
@[simp] theorem State.modifyRecord_freeIndex (s : State) (l : Label) (f : Record → Record) : (s.modifyRecord l f).freeIndex = s.freeIndex :=
  rfl
@[simp] theorem State.modifyRecord_pending (s : State) (l : Label) (f : Record → Record) : (s.modifyRecord l f).pending = s.pending :=
  rfl
@[simp] theorem State.modifyRecord_ret_bounds (s : State) (l : Label) (f : Record → Record) : (s.modifyRecord l f).ret.bounds = s.ret.bounds :=
  rfl
@[simp] theorem State.modifyRecord_ret_couriers (s : State) (l : Label) (f : Record → Record) : (s.modifyRecord l f).ret.couriers = s.ret.couriers :=
  rfl
@[simp] theorem State.modifyRecord_ret_climate (s : State) (l : Label) (f : Record → Record) : (s.modifyRecord l f).ret.climate = s.ret.climate :=
  rfl
@[simp] theorem State.modifyRecord_ret_clock (s : State) (l : Label) (f : Record → Record) : (s.modifyRecord l f).ret.clock = s.ret.clock :=
  rfl
@[simp] theorem State.modifyRecord_ret_clockValid (s : State) (l : Label) (f : Record → Record) : (s.modifyRecord l f).ret.clockValid = s.ret.clockValid :=
  rfl
@[simp] theorem State.modifyRecord_ret_pendingBank (s : State) (l : Label) (f : Record → Record) : (s.modifyRecord l f).ret.pendingBank = s.ret.pendingBank :=
  rfl
@[simp] theorem State.modifyRecord_ret_records (s : State) (l : Label) (f : Record → Record) : (s.modifyRecord l f).ret.records = updateRecord l f s.ret.records :=
  rfl

/-! ### One courier entry -/

@[simp] theorem State.setCourier_phase (s : State) (e : Fin 16) (c : Option Courier) : (s.setCourier e c).phase = s.phase :=
  rfl
@[simp] theorem State.setCourier_monitorFell (s : State) (e : Fin 16) (c : Option Courier) : (s.setCourier e c).monitorFell = s.monitorFell :=
  rfl
@[simp] theorem State.setCourier_store (s : State) (e : Fin 16) (c : Option Courier) : (s.setCourier e c).store = s.store :=
  rfl
@[simp] theorem State.setCourier_live (s : State) (e : Fin 16) (c : Option Courier) : (s.setCourier e c).live = s.live := rfl
@[simp] theorem State.setCourier_zones (s : State) (e : Fin 16) (c : Option Courier) : (s.setCourier e c).zones = s.zones :=
  rfl
@[simp] theorem State.setCourier_bank (s : State) (e : Fin 16) (c : Option Courier) : (s.setCourier e c).bank = s.bank := rfl
@[simp] theorem State.setCourier_manifest (s : State) (e : Fin 16) (c : Option Courier) : (s.setCourier e c).manifest = s.manifest :=
  rfl
@[simp] theorem State.setCourier_hatch (s : State) (e : Fin 16) (c : Option Courier) : (s.setCourier e c).hatch = s.hatch :=
  rfl
@[simp] theorem State.setCourier_handoverTimer (s : State) (e : Fin 16) (c : Option Courier) : (s.setCourier e c).handoverTimer = s.handoverTimer :=
  rfl
@[simp] theorem State.setCourier_releaseTimer (s : State) (e : Fin 16) (c : Option Courier) : (s.setCourier e c).releaseTimer = s.releaseTimer :=
  rfl
@[simp] theorem State.setCourier_opening (s : State) (e : Fin 16) (c : Option Courier) : (s.setCourier e c).opening = s.opening :=
  rfl
@[simp] theorem State.setCourier_levels (s : State) (e : Fin 16) (c : Option Courier) : (s.setCourier e c).levels = s.levels :=
  rfl
@[simp] theorem State.setCourier_flags (s : State) (e : Fin 16) (c : Option Courier) : (s.setCourier e c).flags = s.flags :=
  rfl
@[simp] theorem State.setCourier_fl (s : State) (e : Fin 16) (c : Option Courier) : (s.setCourier e c).fl = s.fl := rfl
@[simp] theorem State.setCourier_hl (s : State) (e : Fin 16) (c : Option Courier) : (s.setCourier e c).hl = s.hl := rfl
@[simp] theorem State.setCourier_secondLeft (s : State) (e : Fin 16) (c : Option Courier) : (s.setCourier e c).secondLeft = s.secondLeft :=
  rfl
@[simp] theorem State.setCourier_minuteLeft (s : State) (e : Fin 16) (c : Option Courier) : (s.setCourier e c).minuteLeft = s.minuteLeft :=
  rfl
@[simp] theorem State.setCourier_hourLeft (s : State) (e : Fin 16) (c : Option Courier) : (s.setCourier e c).hourLeft = s.hourLeft :=
  rfl
@[simp] theorem State.setCourier_freeIndex (s : State) (e : Fin 16) (c : Option Courier) : (s.setCourier e c).freeIndex = s.freeIndex :=
  rfl
@[simp] theorem State.setCourier_pending (s : State) (e : Fin 16) (c : Option Courier) : (s.setCourier e c).pending = s.pending :=
  rfl
@[simp] theorem State.setCourier_ret_records (s : State) (e : Fin 16) (c : Option Courier) : (s.setCourier e c).ret.records = s.ret.records :=
  rfl
@[simp] theorem State.setCourier_ret_bounds (s : State) (e : Fin 16) (c : Option Courier) : (s.setCourier e c).ret.bounds = s.ret.bounds :=
  rfl
@[simp] theorem State.setCourier_ret_climate (s : State) (e : Fin 16) (c : Option Courier) : (s.setCourier e c).ret.climate = s.ret.climate :=
  rfl
@[simp] theorem State.setCourier_ret_clock (s : State) (e : Fin 16) (c : Option Courier) : (s.setCourier e c).ret.clock = s.ret.clock :=
  rfl
@[simp] theorem State.setCourier_ret_clockValid (s : State) (e : Fin 16) (c : Option Courier) : (s.setCourier e c).ret.clockValid = s.ret.clockValid :=
  rfl
@[simp] theorem State.setCourier_ret_pendingBank (s : State) (e : Fin 16) (c : Option Courier) : (s.setCourier e c).ret.pendingBank = s.ret.pendingBank :=
  rfl
@[simp] theorem State.setCourier_ret_couriers (s : State) (e : Fin 16) (c : Option Courier) : (s.setCourier e c).ret.couriers = s.ret.couriers.set e c :=
  rfl

/-! ### One link -/

@[simp] theorem State.setLink_phase (s : State) (k : LinkId) (l : Link) : (s.setLink k l).phase = s.phase := by cases k <;> rfl
@[simp] theorem State.setLink_monitorFell (s : State) (k : LinkId) (l : Link) : (s.setLink k l).monitorFell = s.monitorFell :=
  by cases k <;> rfl
@[simp] theorem State.setLink_ret (s : State) (k : LinkId) (l : Link) : (s.setLink k l).ret = s.ret := by cases k <;> rfl
@[simp] theorem State.setLink_store (s : State) (k : LinkId) (l : Link) : (s.setLink k l).store = s.store := by cases k <;> rfl
@[simp] theorem State.setLink_live (s : State) (k : LinkId) (l : Link) : (s.setLink k l).live = s.live := by cases k <;> rfl
@[simp] theorem State.setLink_zones (s : State) (k : LinkId) (l : Link) : (s.setLink k l).zones = s.zones := by cases k <;> rfl
@[simp] theorem State.setLink_bank (s : State) (k : LinkId) (l : Link) : (s.setLink k l).bank = s.bank := by cases k <;> rfl
@[simp] theorem State.setLink_manifest (s : State) (k : LinkId) (l : Link) : (s.setLink k l).manifest = s.manifest := by cases k <;> rfl
@[simp] theorem State.setLink_hatch (s : State) (k : LinkId) (l : Link) : (s.setLink k l).hatch = s.hatch := by cases k <;> rfl
@[simp] theorem State.setLink_handoverTimer (s : State) (k : LinkId) (l : Link) : (s.setLink k l).handoverTimer = s.handoverTimer :=
  by cases k <;> rfl
@[simp] theorem State.setLink_releaseTimer (s : State) (k : LinkId) (l : Link) : (s.setLink k l).releaseTimer = s.releaseTimer :=
  by cases k <;> rfl
@[simp] theorem State.setLink_opening (s : State) (k : LinkId) (l : Link) : (s.setLink k l).opening = s.opening := by cases k <;> rfl
@[simp] theorem State.setLink_levels (s : State) (k : LinkId) (l : Link) : (s.setLink k l).levels = s.levels := by cases k <;> rfl
@[simp] theorem State.setLink_flags (s : State) (k : LinkId) (l : Link) : (s.setLink k l).flags = s.flags := by cases k <;> rfl
@[simp] theorem State.setLink_secondLeft (s : State) (k : LinkId) (l : Link) : (s.setLink k l).secondLeft = s.secondLeft :=
  by cases k <;> rfl
@[simp] theorem State.setLink_minuteLeft (s : State) (k : LinkId) (l : Link) : (s.setLink k l).minuteLeft = s.minuteLeft :=
  by cases k <;> rfl
@[simp] theorem State.setLink_hourLeft (s : State) (k : LinkId) (l : Link) : (s.setLink k l).hourLeft = s.hourLeft := by cases k <;> rfl
@[simp] theorem State.setLink_freeIndex (s : State) (k : LinkId) (l : Link) : (s.setLink k l).freeIndex = s.freeIndex := by cases k <;> rfl
@[simp] theorem State.setLink_pending (s : State) (k : LinkId) (l : Link) : (s.setLink k l).pending = s.pending := by cases k <;> rfl
@[simp] theorem State.setLink_link_same (s : State) (k : LinkId) (l : Link) : (s.setLink k l).link k = l := by cases k <;> rfl

/-! ### One debounced level -/

@[simp] theorem State.setLevel_phase (s : State) (n : Fin 12) (level : Bool) : (s.setLevel n level).phase = s.phase := rfl
@[simp] theorem State.setLevel_monitorFell (s : State) (n : Fin 12) (level : Bool) : (s.setLevel n level).monitorFell = s.monitorFell :=
  rfl
@[simp] theorem State.setLevel_ret (s : State) (n : Fin 12) (level : Bool) : (s.setLevel n level).ret = s.ret := rfl
@[simp] theorem State.setLevel_store (s : State) (n : Fin 12) (level : Bool) : (s.setLevel n level).store = s.store := rfl
@[simp] theorem State.setLevel_live (s : State) (n : Fin 12) (level : Bool) : (s.setLevel n level).live = s.live := rfl
@[simp] theorem State.setLevel_zones (s : State) (n : Fin 12) (level : Bool) : (s.setLevel n level).zones = s.zones := rfl
@[simp] theorem State.setLevel_bank (s : State) (n : Fin 12) (level : Bool) : (s.setLevel n level).bank = s.bank := rfl
@[simp] theorem State.setLevel_manifest (s : State) (n : Fin 12) (level : Bool) : (s.setLevel n level).manifest = s.manifest :=
  rfl
@[simp] theorem State.setLevel_hatch (s : State) (n : Fin 12) (level : Bool) : (s.setLevel n level).hatch = s.hatch := rfl
@[simp] theorem State.setLevel_handoverTimer (s : State) (n : Fin 12) (level : Bool) : (s.setLevel n level).handoverTimer = s.handoverTimer :=
  rfl
@[simp] theorem State.setLevel_releaseTimer (s : State) (n : Fin 12) (level : Bool) : (s.setLevel n level).releaseTimer = s.releaseTimer :=
  rfl
@[simp] theorem State.setLevel_opening (s : State) (n : Fin 12) (level : Bool) : (s.setLevel n level).opening = s.opening :=
  rfl
@[simp] theorem State.setLevel_flags (s : State) (n : Fin 12) (level : Bool) : (s.setLevel n level).flags = s.flags := rfl
@[simp] theorem State.setLevel_fl (s : State) (n : Fin 12) (level : Bool) : (s.setLevel n level).fl = s.fl := rfl
@[simp] theorem State.setLevel_hl (s : State) (n : Fin 12) (level : Bool) : (s.setLevel n level).hl = s.hl := rfl
@[simp] theorem State.setLevel_secondLeft (s : State) (n : Fin 12) (level : Bool) : (s.setLevel n level).secondLeft = s.secondLeft :=
  rfl
@[simp] theorem State.setLevel_minuteLeft (s : State) (n : Fin 12) (level : Bool) : (s.setLevel n level).minuteLeft = s.minuteLeft :=
  rfl
@[simp] theorem State.setLevel_hourLeft (s : State) (n : Fin 12) (level : Bool) : (s.setLevel n level).hourLeft = s.hourLeft :=
  rfl
@[simp] theorem State.setLevel_freeIndex (s : State) (n : Fin 12) (level : Bool) : (s.setLevel n level).freeIndex = s.freeIndex :=
  rfl
@[simp] theorem State.setLevel_pending (s : State) (n : Fin 12) (level : Bool) : (s.setLevel n level).pending = s.pending :=
  rfl

/-! ### The handover timer -/

@[simp] theorem State.restartHandover_phase (s : State) : (s.restartHandover).phase = s.phase := rfl
@[simp] theorem State.restartHandover_monitorFell (s : State) : (s.restartHandover).monitorFell = s.monitorFell := rfl
@[simp] theorem State.restartHandover_ret (s : State) : (s.restartHandover).ret = s.ret := rfl
@[simp] theorem State.restartHandover_store (s : State) : (s.restartHandover).store = s.store := rfl
@[simp] theorem State.restartHandover_live (s : State) : (s.restartHandover).live = s.live := rfl
@[simp] theorem State.restartHandover_zones (s : State) : (s.restartHandover).zones = s.zones := rfl
@[simp] theorem State.restartHandover_bank (s : State) : (s.restartHandover).bank = s.bank := rfl
@[simp] theorem State.restartHandover_manifest (s : State) : (s.restartHandover).manifest = s.manifest := rfl
@[simp] theorem State.restartHandover_hatch (s : State) : (s.restartHandover).hatch = s.hatch := rfl
@[simp] theorem State.restartHandover_releaseTimer (s : State) : (s.restartHandover).releaseTimer = s.releaseTimer := rfl
@[simp] theorem State.restartHandover_opening (s : State) : (s.restartHandover).opening = s.opening := rfl
@[simp] theorem State.restartHandover_levels (s : State) : (s.restartHandover).levels = s.levels := rfl
@[simp] theorem State.restartHandover_flags (s : State) : (s.restartHandover).flags = s.flags := rfl
@[simp] theorem State.restartHandover_fl (s : State) : (s.restartHandover).fl = s.fl := rfl
@[simp] theorem State.restartHandover_hl (s : State) : (s.restartHandover).hl = s.hl := rfl
@[simp] theorem State.restartHandover_secondLeft (s : State) : (s.restartHandover).secondLeft = s.secondLeft := rfl
@[simp] theorem State.restartHandover_minuteLeft (s : State) : (s.restartHandover).minuteLeft = s.minuteLeft := rfl
@[simp] theorem State.restartHandover_hourLeft (s : State) : (s.restartHandover).hourLeft = s.hourLeft := rfl
@[simp] theorem State.restartHandover_freeIndex (s : State) : (s.restartHandover).freeIndex = s.freeIndex := rfl
@[simp] theorem State.restartHandover_pending (s : State) : (s.restartHandover).pending = s.pending := rfl
@[simp] theorem State.restartHandover_handoverTimer (s : State) : s.restartHandover.handoverTimer = some (s.live.timers.handover * 1000) :=
  rfl

/-! ### The hatch rate -/

@[simp] theorem State.settleHatchRate_phase (s : State) : (s.settleHatchRate).phase = s.phase := by unfold State.settleHatchRate; split <;> rfl
@[simp] theorem State.settleHatchRate_monitorFell (s : State) : (s.settleHatchRate).monitorFell = s.monitorFell := by unfold State.settleHatchRate; split <;> rfl
@[simp] theorem State.settleHatchRate_ret (s : State) : (s.settleHatchRate).ret = s.ret := by unfold State.settleHatchRate; split <;> rfl
@[simp] theorem State.settleHatchRate_store (s : State) : (s.settleHatchRate).store = s.store := by unfold State.settleHatchRate; split <;> rfl
@[simp] theorem State.settleHatchRate_live (s : State) : (s.settleHatchRate).live = s.live := by unfold State.settleHatchRate; split <;> rfl
@[simp] theorem State.settleHatchRate_zones (s : State) : (s.settleHatchRate).zones = s.zones := by unfold State.settleHatchRate; split <;> rfl
@[simp] theorem State.settleHatchRate_bank (s : State) : (s.settleHatchRate).bank = s.bank := by unfold State.settleHatchRate; split <;> rfl
@[simp] theorem State.settleHatchRate_manifest (s : State) : (s.settleHatchRate).manifest = s.manifest := by unfold State.settleHatchRate; split <;> rfl
@[simp] theorem State.settleHatchRate_hatch (s : State) : (s.settleHatchRate).hatch = s.hatch := by unfold State.settleHatchRate; split <;> rfl
@[simp] theorem State.settleHatchRate_handoverTimer (s : State) : (s.settleHatchRate).handoverTimer = s.handoverTimer := by unfold State.settleHatchRate; split <;> rfl
@[simp] theorem State.settleHatchRate_releaseTimer (s : State) : (s.settleHatchRate).releaseTimer = s.releaseTimer := by unfold State.settleHatchRate; split <;> rfl
@[simp] theorem State.settleHatchRate_opening (s : State) : (s.settleHatchRate).opening = s.opening := by unfold State.settleHatchRate; split <;> rfl
@[simp] theorem State.settleHatchRate_levels (s : State) : (s.settleHatchRate).levels = s.levels := by unfold State.settleHatchRate; split <;> rfl
@[simp] theorem State.settleHatchRate_flags (s : State) : (s.settleHatchRate).flags = s.flags := by unfold State.settleHatchRate; split <;> rfl
@[simp] theorem State.settleHatchRate_fl (s : State) : (s.settleHatchRate).fl = s.fl := by unfold State.settleHatchRate; split <;> rfl
@[simp] theorem State.settleHatchRate_secondLeft (s : State) : (s.settleHatchRate).secondLeft = s.secondLeft := by unfold State.settleHatchRate; split <;> rfl
@[simp] theorem State.settleHatchRate_minuteLeft (s : State) : (s.settleHatchRate).minuteLeft = s.minuteLeft := by unfold State.settleHatchRate; split <;> rfl
@[simp] theorem State.settleHatchRate_hourLeft (s : State) : (s.settleHatchRate).hourLeft = s.hourLeft := by unfold State.settleHatchRate; split <;> rfl
@[simp] theorem State.settleHatchRate_freeIndex (s : State) : (s.settleHatchRate).freeIndex = s.freeIndex := by unfold State.settleHatchRate; split <;> rfl
@[simp] theorem State.settleHatchRate_pending (s : State) : (s.settleHatchRate).pending = s.pending := by unfold State.settleHatchRate; split <;> rfl

/-! ### A discarded frame -/

@[simp] theorem State.discardFrame_phase (s : State) (k : LinkId) : (s.discardFrame k).phase = s.phase := by cases k <;> simp [State.discardFrame]
@[simp] theorem State.discardFrame_monitorFell (s : State) (k : LinkId) : (s.discardFrame k).monitorFell = s.monitorFell :=
  by cases k <;> simp [State.discardFrame]
@[simp] theorem State.discardFrame_ret (s : State) (k : LinkId) : (s.discardFrame k).ret = s.ret := by cases k <;> simp [State.discardFrame]
@[simp] theorem State.discardFrame_store (s : State) (k : LinkId) : (s.discardFrame k).store = s.store := by cases k <;> simp [State.discardFrame]
@[simp] theorem State.discardFrame_live (s : State) (k : LinkId) : (s.discardFrame k).live = s.live := by cases k <;> simp [State.discardFrame]
@[simp] theorem State.discardFrame_zones (s : State) (k : LinkId) : (s.discardFrame k).zones = s.zones := by cases k <;> simp [State.discardFrame]
@[simp] theorem State.discardFrame_bank (s : State) (k : LinkId) : (s.discardFrame k).bank = s.bank := by cases k <;> simp [State.discardFrame]
@[simp] theorem State.discardFrame_manifest (s : State) (k : LinkId) : (s.discardFrame k).manifest = s.manifest := by cases k <;> simp [State.discardFrame]
@[simp] theorem State.discardFrame_hatch (s : State) (k : LinkId) : (s.discardFrame k).hatch = s.hatch := by cases k <;> simp [State.discardFrame]
@[simp] theorem State.discardFrame_handoverTimer (s : State) (k : LinkId) : (s.discardFrame k).handoverTimer = s.handoverTimer :=
  by cases k <;> simp [State.discardFrame]
@[simp] theorem State.discardFrame_releaseTimer (s : State) (k : LinkId) : (s.discardFrame k).releaseTimer = s.releaseTimer :=
  by cases k <;> simp [State.discardFrame]
@[simp] theorem State.discardFrame_opening (s : State) (k : LinkId) : (s.discardFrame k).opening = s.opening := by cases k <;> simp [State.discardFrame]
@[simp] theorem State.discardFrame_levels (s : State) (k : LinkId) : (s.discardFrame k).levels = s.levels := by cases k <;> simp [State.discardFrame]
@[simp] theorem State.discardFrame_secondLeft (s : State) (k : LinkId) : (s.discardFrame k).secondLeft = s.secondLeft := by cases k <;> simp [State.discardFrame]
@[simp] theorem State.discardFrame_minuteLeft (s : State) (k : LinkId) : (s.discardFrame k).minuteLeft = s.minuteLeft := by cases k <;> simp [State.discardFrame]
@[simp] theorem State.discardFrame_hourLeft (s : State) (k : LinkId) : (s.discardFrame k).hourLeft = s.hourLeft := by cases k <;> simp [State.discardFrame]
@[simp] theorem State.discardFrame_freeIndex (s : State) (k : LinkId) : (s.discardFrame k).freeIndex = s.freeIndex := by cases k <;> simp [State.discardFrame]
@[simp] theorem State.discardFrame_pending (s : State) (k : LinkId) : (s.discardFrame k).pending = s.pending := by cases k <;> simp [State.discardFrame]

/-! ### A response begun -/

@[simp] theorem State.reply_phase (s : State) (k : LinkId) (r : Response) : (s.reply k r).phase = s.phase := by unfold State.reply; split <;> simp
@[simp] theorem State.reply_monitorFell (s : State) (k : LinkId) (r : Response) : (s.reply k r).monitorFell = s.monitorFell :=
  by unfold State.reply; split <;> simp
@[simp] theorem State.reply_ret (s : State) (k : LinkId) (r : Response) : (s.reply k r).ret = s.ret := by unfold State.reply; split <;> simp
@[simp] theorem State.reply_store (s : State) (k : LinkId) (r : Response) : (s.reply k r).store = s.store := by unfold State.reply; split <;> simp
@[simp] theorem State.reply_live (s : State) (k : LinkId) (r : Response) : (s.reply k r).live = s.live := by unfold State.reply; split <;> simp
@[simp] theorem State.reply_zones (s : State) (k : LinkId) (r : Response) : (s.reply k r).zones = s.zones := by unfold State.reply; split <;> simp
@[simp] theorem State.reply_bank (s : State) (k : LinkId) (r : Response) : (s.reply k r).bank = s.bank := by unfold State.reply; split <;> simp
@[simp] theorem State.reply_manifest (s : State) (k : LinkId) (r : Response) : (s.reply k r).manifest = s.manifest := by unfold State.reply; split <;> simp
@[simp] theorem State.reply_hatch (s : State) (k : LinkId) (r : Response) : (s.reply k r).hatch = s.hatch := by unfold State.reply; split <;> simp
@[simp] theorem State.reply_handoverTimer (s : State) (k : LinkId) (r : Response) : (s.reply k r).handoverTimer = s.handoverTimer :=
  by unfold State.reply; split <;> simp
@[simp] theorem State.reply_releaseTimer (s : State) (k : LinkId) (r : Response) : (s.reply k r).releaseTimer = s.releaseTimer :=
  by unfold State.reply; split <;> simp
@[simp] theorem State.reply_opening (s : State) (k : LinkId) (r : Response) : (s.reply k r).opening = s.opening := by unfold State.reply; split <;> simp
@[simp] theorem State.reply_levels (s : State) (k : LinkId) (r : Response) : (s.reply k r).levels = s.levels := by unfold State.reply; split <;> simp
@[simp] theorem State.reply_secondLeft (s : State) (k : LinkId) (r : Response) : (s.reply k r).secondLeft = s.secondLeft :=
  by unfold State.reply; split <;> simp
@[simp] theorem State.reply_minuteLeft (s : State) (k : LinkId) (r : Response) : (s.reply k r).minuteLeft = s.minuteLeft :=
  by unfold State.reply; split <;> simp
@[simp] theorem State.reply_hourLeft (s : State) (k : LinkId) (r : Response) : (s.reply k r).hourLeft = s.hourLeft := by unfold State.reply; split <;> simp
@[simp] theorem State.reply_freeIndex (s : State) (k : LinkId) (r : Response) : (s.reply k r).freeIndex = s.freeIndex := by unfold State.reply; split <;> simp
@[simp] theorem State.reply_pending (s : State) (k : LinkId) (r : Response) : (s.reply k r).pending = s.pending := by unfold State.reply; split <;> simp

/-! ### An answered request -/

@[simp] theorem State.answered_phase (s : State) (k : LinkId) (code : Byte) (x : Status) (rs : List Byte) : (s.answered k code x rs).phase = s.phase :=
  by simp [State.answered]
@[simp] theorem State.answered_monitorFell (s : State) (k : LinkId) (code : Byte) (x : Status) (rs : List Byte) : (s.answered k code x rs).monitorFell = s.monitorFell :=
  by simp [State.answered]
@[simp] theorem State.answered_ret (s : State) (k : LinkId) (code : Byte) (x : Status) (rs : List Byte) : (s.answered k code x rs).ret = s.ret :=
  by simp [State.answered]
@[simp] theorem State.answered_store (s : State) (k : LinkId) (code : Byte) (x : Status) (rs : List Byte) : (s.answered k code x rs).store = s.store :=
  by simp [State.answered]
@[simp] theorem State.answered_live (s : State) (k : LinkId) (code : Byte) (x : Status) (rs : List Byte) : (s.answered k code x rs).live = s.live :=
  by simp [State.answered]
@[simp] theorem State.answered_zones (s : State) (k : LinkId) (code : Byte) (x : Status) (rs : List Byte) : (s.answered k code x rs).zones = s.zones :=
  by simp [State.answered]
@[simp] theorem State.answered_bank (s : State) (k : LinkId) (code : Byte) (x : Status) (rs : List Byte) : (s.answered k code x rs).bank = s.bank :=
  by simp [State.answered]
@[simp] theorem State.answered_manifest (s : State) (k : LinkId) (code : Byte) (x : Status) (rs : List Byte) : (s.answered k code x rs).manifest = s.manifest :=
  by simp [State.answered]
@[simp] theorem State.answered_hatch (s : State) (k : LinkId) (code : Byte) (x : Status) (rs : List Byte) : (s.answered k code x rs).hatch = s.hatch :=
  by simp [State.answered]
@[simp] theorem State.answered_handoverTimer (s : State) (k : LinkId) (code : Byte) (x : Status) (rs : List Byte) : (s.answered k code x rs).handoverTimer = s.handoverTimer :=
  by simp [State.answered]
@[simp] theorem State.answered_releaseTimer (s : State) (k : LinkId) (code : Byte) (x : Status) (rs : List Byte) : (s.answered k code x rs).releaseTimer = s.releaseTimer :=
  by simp [State.answered]
@[simp] theorem State.answered_opening (s : State) (k : LinkId) (code : Byte) (x : Status) (rs : List Byte) : (s.answered k code x rs).opening = s.opening :=
  by simp [State.answered]
@[simp] theorem State.answered_levels (s : State) (k : LinkId) (code : Byte) (x : Status) (rs : List Byte) : (s.answered k code x rs).levels = s.levels :=
  by simp [State.answered]
@[simp] theorem State.answered_secondLeft (s : State) (k : LinkId) (code : Byte) (x : Status) (rs : List Byte) : (s.answered k code x rs).secondLeft = s.secondLeft :=
  by simp [State.answered]
@[simp] theorem State.answered_minuteLeft (s : State) (k : LinkId) (code : Byte) (x : Status) (rs : List Byte) : (s.answered k code x rs).minuteLeft = s.minuteLeft :=
  by simp [State.answered]
@[simp] theorem State.answered_hourLeft (s : State) (k : LinkId) (code : Byte) (x : Status) (rs : List Byte) : (s.answered k code x rs).hourLeft = s.hourLeft :=
  by simp [State.answered]
@[simp] theorem State.answered_freeIndex (s : State) (k : LinkId) (code : Byte) (x : Status) (rs : List Byte) : (s.answered k code x rs).freeIndex = s.freeIndex :=
  by simp [State.answered]
@[simp] theorem State.answered_pending (s : State) (k : LinkId) (code : Byte) (x : Status) (rs : List Byte) : (s.answered k code x rs).pending = s.pending :=
  by simp [State.answered]

/-! ### What is read of a zone after an update -/

@[simp] theorem State.setZone_mode (s : State) (z z' : Zone) (v : ZoneState) :
    (s.setZone z v).mode z' = if z' = z then v.mode else s.mode z' := by
  simp only [State.mode, State.setZone_zones, PerZone.get_set]; split <;> rfl

@[simp] theorem State.setZone_fire (s : State) (z z' : Zone) (v : ZoneState) :
    (s.setZone z v).fire z' = if z' = z then v.fire else s.fire z' := by
  simp only [State.fire, State.setZone_zones, PerZone.get_set]; split <;> rfl

@[simp] theorem State.setFire_fire (s : State) (z z' : Zone) (f : FireState) :
    (s.setFire z f).fire z' = if z' = z then f else s.fire z' := by simp [State.setFire]

@[simp] theorem State.setFire_mode (s : State) (z z' : Zone) (f : FireState) : (s.setFire z f).mode z' = s.mode z' := by
  simp only [State.setFire, State.setZone_mode]; split
  · next h => subst h; rfl
  · rfl

@[simp] theorem State.setMode_mode (s : State) (z z' : Zone) (m : ZoneMode) :
    (s.setMode z m).mode z' = if z' = z then m else s.mode z' := by simp [State.setMode]

@[simp] theorem State.setMode_fire (s : State) (z z' : Zone) (m : ZoneMode) : (s.setMode z m).fire z' = s.fire z' := by
  simp only [State.setMode, State.setZone_fire]; split
  · next h => subst h; rfl
  · rfl

@[simp] theorem State.setLoop_mode (s : State) (z z' : Zone) (l : Loop) : (s.setLoop z l).mode z' = s.mode z' := by
  simp only [State.setLoop, State.setZone_mode]; split
  · next h => subst h; rfl
  · rfl

@[simp] theorem State.setLoop_fire (s : State) (z z' : Zone) (l : Loop) : (s.setLoop z l).fire z' = s.fire z' := by
  simp only [State.setLoop, State.setZone_fire]; split
  · next h => subst h; rfl
  · rfl

@[simp] theorem State.setAccount_climate (s : State) (z z' : Zone) (a : ClimateAccount) :
    (s.setAccount z a).climate z' = if z' = z then a.state else s.climate z' := by
  simp only [State.climate, State.setAccount_ret_climate, PerZone.get_set]; split <;> rfl

@[simp] theorem State.setSettings_settings (s : State) (z z' : Zone) (v : ZoneSettings) :
    (s.setSettings z v).settings z' = if z' = z then v else s.settings z' := by
  simp only [State.settings, State.setSettings_live_zones, PerZone.get_set]

theorem State.mode_congr {s t : State} (h : t.zones = s.zones) (z : Zone) : t.mode z = s.mode z := by simp [State.mode, h]

theorem State.fire_congr {s t : State} (h : t.zones = s.zones) (z : Zone) : t.fire z = s.fire z := by simp [State.fire, h]

theorem State.climate_congr {s t : State} (h : t.ret.climate = s.ret.climate) (z : Zone) : t.climate z = s.climate z := by
  simp [State.climate, h]

end Sys2Proof.Machine
end

