-- ==== Sys2Proof/Laws/Ops.lean ====
section
/-! SUPPORT. What each shared operation can do, said once: the taking of a request on its link, the order of tests, the
custody gate, the table of records. Later proofs cite these and unfold no operation. -/

namespace Sys2Proof.Machine

open Host

/-! ### Requests on their links -/

theorem State.admission_take {s : State} {k : LinkId} {c : Instr} (h : s.takes k c) : s.admission k c = .take := by
  obtain ⟨hp, h | ⟨hw, hr⟩⟩ := h
  · simp [State.admission, hp, h]
  · simp [State.admission, hp, hw, Link.receiving, hr]

theorem State.takes_of_admission {s : State} {k : LinkId} {c : Instr} (h : s.admission k c = .take) : s.takes k c := by
  unfold State.admission at h
  split at h
  · cases h
  · next hp =>
    refine ⟨by simpa using hp, ?_⟩
    split at h
    · cases h
    · next c' hc =>
      split at h
      · next he => exact .inl (he ▸ hc)
      · split at h <;> cases h
    · next hw =>
      split at h
      · cases h
      · next hr => exact .inr ⟨hw, by simpa [Link.receiving] using hr⟩

/-- A request that its link takes is answered by its owner block. -/
theorem takeRequest_taken {s : State} {k : LinkId} {code : Byte} {c : Instr} (owner : State → Answer) (h : s.takes k c) :
    takeRequest k code c owner s = .next ((owner s).state.answered k code (owner s).status (owner s).results) := by
  simp [takeRequest, State.admission_take h, State.answered, responseCode]

/-- Everything a request can do: its owner's answer is sent, or its frame is an overrun, or it is lost. -/
theorem takeRequest_cases (s : State) (k : LinkId) (code : Byte) (c : Instr) (owner : State → Answer) :
    (s.takes k c ∧
      takeRequest k code c owner s = .next ((owner s).state.answered k code (owner s).status (owner s).results)) ∨
    takeRequest k code c owner s = .next (s.discardFrame k) ∨ takeRequest k code c owner s = .next s := by
  cases h : s.admission k c
  · exact .inl ⟨State.takes_of_admission h, takeRequest_taken owner (State.takes_of_admission h)⟩
  · exact .inr (.inl (by simp [takeRequest, h]))
  · exact .inr (.inr (by simp [takeRequest, h]))

theorem takeRequest_notRunning {s : State} {k : LinkId} {code : Byte} {c : Instr} {owner : State → Answer}
    (h : s.phase ≠ .running) : takeRequest k code c owner s = .next s := by
  simp [takeRequest, State.admission, h]

theorem takeRequest_sending {s : State} {k : LinkId} {code : Byte} {c : Instr} {owner : State → Answer}
    (h : (s.link k).isSending = true) : takeRequest k code c owner s = .next s := by
  unfold Link.isSending at h
  split at h
  · next r hr => by_cases hp : s.phase = .running <;> simp [takeRequest, State.admission, hr, hp]
  · cases h

theorem takeRequest_overrun {s : State} {k : LinkId} {code : Byte} {c c' : Instr} {owner : State → Answer}
    (hp : s.phase = .running) (hr : (s.link k).rx = .hunting) (hc : (s.link k).request = .taken c') (hne : c' ≠ c) :
    takeRequest k code c owner s = .next (s.discardFrame k) := by
  simp [takeRequest, State.admission, hp, hr, hc, hne, Link.receiving]

/-- With a frame in reception, a request that is not the one TAKEN is lost. -/
theorem takeRequest_receiving {s : State} {k : LinkId} {code : Byte} {c : Instr} {owner : State → Answer}
    (hr : (s.link k).rx ≠ .hunting) (hc : (s.link k).request ≠ .taken c) : takeRequest k code c owner s = .next s := by
  by_cases hp : s.phase = .running
  · cases h : (s.link k).request
    · simp [takeRequest, State.admission, hp, h, Link.receiving, hr]
    · next c' =>
      have hne : c' ≠ c := fun e => hc (by rw [h, e])
      simp [takeRequest, State.admission, hp, h, hne, Link.receiving, hr]
    · simp [takeRequest, State.admission, hp, h]
  · exact takeRequest_notRunning hp

/-- Everything that the settling of the hatch link's rate can do: nothing while the link is busy, else the rate alone. -/
theorem State.settleHatchRate_cases (s : State) :
    ((s.hl.receiving || s.hl.isSending || s.hl.rateHeld) = true ∧ s.settleHatchRate = s) ∨
    ((s.hl.receiving || s.hl.isSending || s.hl.rateHeld) = false ∧
      s.settleHatchRate = { s with hl := { s.hl with rate := s.live.hatchDivisor } }) := by
  unfold State.settleHatchRate
  split
  · next h => exact .inl ⟨h, rfl⟩
  · next h => exact .inr ⟨by simpa using h, rfl⟩

/-- An expiry that finds the handover timer with time left changes nothing (R92). -/
theorem State.handoverExpiry_restarted {s : State} {left : Nat} (h : s.handoverTimer = some left) (hl : 0 < left) :
    s.handoverExpiry = s := by
  cases left with
  | zero => cases hl
  | succ n => simp [State.handoverExpiry, h]

/-! ### Fields of a frame: what is written is read back -/

theorem read16_be16 (n : BitVec 16) (rest : List Byte) : read16 (be16 n.toNat ++ rest) = some (n, rest) := by
  have h : byteOf (n.toNat / 256) ++ byteOf n.toNat = n := by
    apply BitVec.eq_of_toNat_eq
    have := n.isLt
    simp only [byteOf, BitVec.toNat_append, BitVec.toNat_ofNat, Nat.shiftLeft_eq]
    rw [← Nat.mul_comm (2 ^ 8), ← Nat.two_pow_add_eq_or_of_lt (by omega)]
    omega
  simp [read16, be16, h]

/-- The refused answer: the state is as it was. -/
@[simp] theorem refused_state (s : State) (r : Status) : (refused s r).state = s := rfl
@[simp] theorem refused_status (s : State) (r : Status) : (refused s r).status = r := rfl
@[simp] theorem refused_results (s : State) (r : Status) : (refused s r).results = [] := rfl
@[simp] theorem accepted_state (s : State) (rs : List Byte) : (accepted s rs).state = s := rfl
@[simp] theorem accepted_status (s : State) (rs : List Byte) : (accepted s rs).status = .ok := rfl
@[simp] theorem accepted_results (s : State) (rs : List Byte) : (accepted s rs).results = rs := rfl

/-! ### The order of tests -/

@[simp] theorem firstFailing_nil : firstFailing [] = none := rfl
@[simp] theorem firstFailing_cons (b : Bool) (x : Status) (l : List (Bool × Status)) :
    firstFailing ((b, x) :: l) = if b then some x else firstFailing l := rfl

theorem firstFailing_append (a b : List (Bool × Status)) :
    firstFailing (a ++ b) = (firstFailing a).orElse fun _ => firstFailing b := by
  induction a with
  | nil => simp
  | cons x xs ih => obtain ⟨c, r⟩ := x; cases c <;> simp [ih]

/-- Custody gating is its two tests in their order (R7). -/
theorem State.gate_eq (s : State) (z : Zone) : s.gate z = firstFailing (s.gateTests z) := by
  simp only [State.gate, State.gateTests, firstFailing_cons, firstFailing_nil]
  by_cases h : s.mode z = .online <;> cases h' : (s.fire z).isOpen <;> simp [h]

/-- Gating at two zones is the tests of the one and then of the other (R7). -/
theorem State.gateMove_eq (s : State) (a b : Zone) : s.gateMove a b = firstFailing (s.gateTests a ++ s.gateTests b) := by
  rw [firstFailing_append, ← State.gate_eq, ← State.gate_eq, State.gateMove]
  cases h : s.gate a with
  | some r => simp
  | none =>
    by_cases hab : a = b
    · subst hab; simp [h]
    · simp [hab]

theorem State.gate_none {s : State} {z : Zone} : s.gate z = none ↔ s.custodyOpen z = true := by
  simp only [State.gate, State.custodyOpen]
  by_cases h : s.mode z = .online <;> cases h' : (s.fire z).isOpen <;> simp [h]

/-! ### The custody table -/

theorem findRecord_label {l : Label} {rs : List Record} {r : Record} (h : findRecord l rs = some r) : r.label = l := by
  simpa using List.find?_some h

theorem findRecord_mem {l : Label} {rs : List Record} {r : Record} (h : findRecord l rs = some r) : r ∈ rs :=
  List.mem_of_find?_eq_some h

theorem mem_insertRecord {r x : Record} {rs : List Record} : x ∈ insertRecord r rs ↔ x = r ∨ x ∈ rs := by
  induction rs with
  | nil => simp [insertRecord]
  | cons y ys ih =>
    unfold insertRecord
    split
    · simp
    · simp [ih]; tauto

theorem length_insertRecord (r : Record) (rs : List Record) : (insertRecord r rs).length = rs.length + 1 := by
  induction rs with
  | nil => rfl
  | cons y ys ih => unfold insertRecord; split <;> simp [ih]

theorem updateRecord_length (l : Label) (f : Record → Record) (rs : List Record) :
    (updateRecord l f rs).length = rs.length := by simp [updateRecord]

theorem mem_updateRecord {l : Label} {f : Record → Record} {rs : List Record} {x : Record} :
    x ∈ updateRecord l f rs ↔ ∃ r ∈ rs, (if r.label = l then f r else r) = x := by simp [updateRecord]

theorem mem_removeRecord {l : Label} {rs : List Record} {x : Record} : x ∈ removeRecord l rs ↔ x ∈ rs ∧ x.label ≠ l := by
  simp [removeRecord]

/-! ### The order of labels (R3) -/

theorem bytesBefore_irrefl (a : List Byte) : bytesBefore a a = false := by
  induction a with
  | nil => rfl
  | cons x xs ih => simp [bytesBefore, ih]

theorem bytesBefore_trans {a b c : List Byte} (h : bytesBefore a b = true) (h' : bytesBefore b c = true) :
    bytesBefore a c = true := by
  induction a generalizing b c with
  | nil => cases b <;> simp [bytesBefore] at h
  | cons x xs ih =>
    cases b with
    | nil => simp [bytesBefore] at h
    | cons y ys =>
      cases c with
      | nil => simp [bytesBefore] at h'
      | cons z zs =>
        simp only [bytesBefore] at h h' ⊢
        by_cases hxy : x = y
        · subst hxy
          by_cases hxz : x = z
          · subst hxz; simp only [if_true] at h h' ⊢; exact ih h h'
          · simp only [hxz, if_false] at h' ⊢; exact h'
        · by_cases hyz : y = z
          · subst hyz; simp only [hxy, if_false, if_true] at h h' ⊢; exact h
          · simp only [hxy, hyz, if_false, decide_eq_true_eq] at h h'
            have hxz : x ≠ z := by intro e; subst e; omega
            simp only [hxz, if_false, decide_eq_true_eq]; omega

theorem bytesBefore_total {a b : List Byte} (hl : a.length = b.length) (hne : a ≠ b) :
    bytesBefore a b = true ∨ bytesBefore b a = true := by
  induction a generalizing b with
  | nil => cases b <;> simp_all
  | cons x xs ih =>
    cases b with
    | nil => simp at hl
    | cons y ys =>
      simp only [bytesBefore]
      by_cases hxy : x = y
      · subst hxy
        simp only [if_true]
        exact ih (by simpa using hl) (by simpa using hne)
      · have hyx : y ≠ x := Ne.symm hxy
        simp only [hxy, hyx, if_false, decide_eq_true_eq]
        have : x.toNat ≠ y.toNat := fun e => hxy (BitVec.eq_of_toNat_eq e)
        omega

theorem labelBefore_irrefl (a : Label) : labelBefore a a = false := bytesBefore_irrefl _

theorem labelBefore_trans {a b c : Label} (h : labelBefore a b = true) (h' : labelBefore b c = true) :
    labelBefore a c = true := bytesBefore_trans h h'

theorem labelBefore_total {a b : Label} (h : a ≠ b) : labelBefore a b = true ∨ labelBefore b a = true :=
  bytesBefore_total (by simp) fun e => h (Vector.toList_inj.mp e)

theorem labelBefore_ne {a b : Label} (h : labelBefore a b = true) : a ≠ b := by
  rintro rfl; simp [labelBefore_irrefl] at h

/-- A label that is not in a table in label order goes to its place (R3). -/
theorem insertRecord_sorted {r : Record} {rs : List Record} (hs : rs.Pairwise fun a b => labelBefore a.label b.label = true)
    (hn : ∀ x ∈ rs, x.label ≠ r.label) : (insertRecord r rs).Pairwise fun a b => labelBefore a.label b.label = true := by
  induction rs with
  | nil => simp [insertRecord]
  | cons y ys ih =>
    obtain ⟨hy, hys⟩ := List.pairwise_cons.mp hs
    unfold insertRecord
    split
    · next h =>
      exact List.pairwise_cons.mpr
        ⟨fun x hx => by
          rcases List.mem_cons.mp hx with rfl | hx
          · exact h
          · exact labelBefore_trans h (hy x hx), hs⟩
    · next h =>
      refine List.pairwise_cons.mpr ⟨fun x hx => ?_, ih hys fun x hx => hn x (List.mem_cons_of_mem _ hx)⟩
      rcases mem_insertRecord.mp hx with rfl | hx
      · exact (labelBefore_total (hn y (List.mem_cons_self ..))).resolve_right h
      · exact hy x hx

/-! ### Events -/

theorem whileRunning_running {s : State} {f : State → State} (h : s.phase = .running) : whileRunning f s = .next (f s) := by
  simp [whileRunning, h]

theorem whileRunning_notRunning {s : State} {f : State → State} (h : s.phase ≠ .running) : whileRunning f s = .next s := by
  simp [whileRunning, h]

/-- A timer's event in a running part whose timer has run down has its effect. -/
theorem whenDue_due {s : State} {left : State → Nat} {f : State → State} (h : s.phase = .running) (hl : left s = 0) :
    whenDue left f s = .next (f s) := by
  simp [whenDue, whileRunning, h, hl]

/-- A timer's event that finds time left changes nothing, nor does one in a part that does not run. -/
theorem whenDue_early {s : State} {left : State → Nat} {f : State → State} (hl : left s ≠ 0) : whenDue left f s = .next s := by
  simp [whenDue, whileRunning, hl]

theorem whenDue_notRunning {s : State} {left : State → Nat} {f : State → State} (h : s.phase ≠ .running) :
    whenDue left f s = .next s := by
  simp [whenDue, whileRunning, h]

/-! ### A cut store write -/

theorem mixBits_getLsbD {w : Nat} (isNew : Fin w → Bool) (old new : BitVec w) (i : Fin w) :
    (mixBits isNew old new).getLsbD i.val = if isNew i then new.getLsbD i.val else old.getLsbD i.val := by
  simp only [mixBits, BitVec.getLsbD_eq_getElem i.isLt, BitVec.getElem_ofFnLE]
  cases isNew i <;> simp

@[simp] theorem Tunables.torn_zones (f : StoredValue → Bool) (old new : Tunables) (z : Zone) :
    (old.torn f new).zones.get z = (old.zones.get z).torn f z (new.zones.get z) := by cases z <;> rfl
@[simp] theorem Tunables.torn_enables (f : StoredValue → Bool) (old new : Tunables) :
    (old.torn f new).enables = mixBits (fun i => f (.enable i)) old.enables new.enables := rfl
@[simp] theorem Tunables.torn_expected (f : StoredValue → Bool) (old new : Tunables) :
    (old.torn f new).expected = mixBits (fun n => f (.expected n)) old.expected new.expected := rfl
@[simp] theorem Tunables.torn_hostLevels (f : StoredValue → Bool) (old new : Tunables) :
    (old.torn f new).hostLevels = mixBits (fun n => f (.hostLevel n)) old.hostLevels new.hostLevels := rfl

end Sys2Proof.Machine
end

