-- ==== Sys2Proof/Laws/Derived.lean ====
section
/-! SUPPORT. What the derived values of the state are, in the terms of the spec: parameters and their bytes, the items of the
manifest, couriers and badges, lines, and a sample's arithmetic and accounting. -/

namespace Sys2Proof.Machine

open Host

/-! ### Parameters and their bytes (R173) -/

/-- A zone's number is the byte that named it. -/
theorem zoneOf_byte {b : Byte} {z : Zone} (h : zoneOf b = some z) : byteOf z.number = b := by
  have : b.toNat = z.number := by
    unfold zoneOf at h; revert h; generalize b.toNat = n; unfold Zone.ofNumber; split <;> rintro ⟨⟩ <;> rfl
  rw [← this]; simp [byteOf]

theorem modeOf_byte {b : Byte} {z : ZoneMode} (h : modeOf b = some z) : byteOf z.number = b := by
  have : b.toNat = z.number := by
    unfold modeOf at h; revert h; generalize b.toNat = n; split <;> rintro ⟨⟩ <;> rfl
  rw [← this]; simp [byteOf]

theorem entryOf_byte {b : Byte} {z : Fin 16} (h : entryOf b = some z) : byteOf z.val = b := by
  unfold entryOf at h; split at h <;> cases h; simp [byteOf]

theorem classOf_byte {b : Byte} {z : Fin 8} (h : classOf b = some z) : byteOf z.val = b := by
  unfold classOf at h; split at h <;> cases h; simp [byteOf]

theorem lineOf_byte {b : Byte} {n : Fin 12} (h : lineOf b = some n) : byteOf n.val = b := by
  unfold lineOf at h; split at h <;> cases h; simp [byteOf]

theorem byteOf_toNat (n : Nat) : (byteOf n).toNat = n % 256 := by simp [byteOf]

theorem clampNat_eq {lo hi n : Nat} (h : lo ≤ hi) : clampNat lo hi n = max lo (min hi n) := by
  simp only [clampNat]; split <;> (try split) <;> omega

theorem clampInt_eq {lo hi n : Int} (h : lo ≤ hi) : clampInt lo hi n = max lo (min hi n) := by
  simp only [clampInt]; split <;> (try split) <;> omega

/-! ### Records and items -/

/-- A facility request on a record is refused for its label, for a record that is not there, or left to the record. -/
theorem withRecord_onRecord (s : State) (code label) (f : Record → Answer) (g) (h : ∀ r, s.find label = some r → .next ((f r).state.answered .facility code (f r).status (f r).results) = g r) :
    (.next ((withRecord label s f).state.answered .facility code (withRecord label s f).status (withRecord label s f).results) : Outcome State Fault Refusal) = onRecord s code label g := by
  unfold withRecord onRecord
  cases hl : labelOk label
  · simp
  · cases hf : s.find label
    · simp
    · simp [h _ hf]

/-- The summary reads only the boundaries and the record. -/
theorem State.summary_congr {s t : State} (h : t.ret.bounds = s.ret.bounds) (r : Record) : t.summary r = s.summary r := by
  unfold State.summary State.location State.zoneOfSlot; rw [h]

/-- A change that leaves every record of a label as it is leaves the table. -/
theorem updateRecord_of_fixed (l : Label) (f : Record → Record) (rs : List Record) (h : ∀ x ∈ rs, x.label = l → f x = x) : updateRecord l f rs = rs := by
  unfold updateRecord
  conv => rhs; rw [← List.map_id rs]
  refine List.map_congr_left fun x hx => ?_
  split
  · exact h x hx ‹_›
  · rfl

theorem findItem_isSome (l : Label) (items : List Item) : (findItem l items).isSome = items.any fun i => decide (i.label = l) := by
  unfold findItem; rw [Bool.eq_iff_iff, List.find?_isSome]; simp

theorem findItem_isNone (l : Label) (items : List Item) : (findItem l items).isNone = items.all fun i => decide (i.label ≠ l) := by
  rw [← Option.not_isSome, findItem_isSome, Bool.eq_iff_iff]; simp

/-- The units that a boundary's move takes from one zone to another (R34). -/
theorem unitMoves_eq (b : Bounds) (hb : b.wf) (k v : Nat) (h1 : 1 ≤ k) (h5 : k ≤ 5) (hl : b.get (k-1) ≤ v) (hu : v ≤ b.get (k+1)) (u : Nat) (_ : u ≤ 23) :
    unitMoves (b.get k) v u = decide ((b.set k v).zoneOfUnit u ≠ b.zoneOfUnit u) := by
  obtain ⟨b1,b2,b3,b4,b5⟩ := b
  obtain ⟨g1,g2,g3,g4,g5⟩ := hb
  dsimp only at *
  have : k = 1 ∨ k = 2 ∨ k = 3 ∨ k = 4 ∨ k = 5 := by omega
  rcases this with rfl | rfl | rfl | rfl | rfl <;> simp only [Bounds.get, Bounds.set, unitMoves, Bounds.zoneOfUnit] at * <;> rw [Bool.eq_iff_iff] <;> simp <;> split_ifs <;> simp <;> omega

/-! ### Couriers and the hatch -/

theorem State.badgeTaken_eq (s : State) (e badge) : s.badgeTaken e badge = decide (∃ e' : Fin 16, e' ≠ e ∧ s.ret.couriers[e'].map Courier.badge = some badge) := by
  rw [Bool.eq_iff_iff]; simp only [State.badgeTaken, List.any_eq_true, decide_eq_true_eq]
  constructor
  · rintro ⟨e', _, h⟩
    refine ⟨e', ?_⟩
    cases h' : s.ret.couriers[e'] <;> simp_all
  · rintro ⟨e', h1, h2⟩
    refine ⟨e', (by decide : ∀ e' : Fin 16, e' ∈ allEntries) e', ?_⟩
    cases h' : s.ret.couriers[e'] <;> simp_all

theorem State.courierBusy_eq (s : State) (e) : s.courierBusy e = decide (s.manifest.map Manifest.courier = some e ∨ s.identified = some e) := by
  unfold State.courierBusy; cases s.manifest <;> simp

/-- The one entry that holds a badge is its holder (R55). -/
theorem State.badgeHolder_some (s : State) (badge : BitVec 24) (e : Fin 16) (c) (h : s.ret.couriers[e] = some c) (hb : c.badge = badge)
   (hu : ∀ e' : Fin 16, e' ≠ e → s.ret.couriers[e'].map Courier.badge ≠ some badge) : s.badgeHolder badge = some e := by
  unfold State.badgeHolder
  have : (fun e' : Fin 16 => (match s.ret.couriers[e'] with | some c => decide (c.badge = badge) | none => false)) = fun e' => decide (e' = e) := by
    funext e'
    by_cases he : e' = e
    · subst he; simp [h, hb]
    · have := hu e' he
      cases h' : s.ret.couriers[e'] <;> simp_all
  refine Eq.trans (congrArg (fun p => allEntries.find? p) this) ?_
  clear this hu h
  revert e; decide

theorem State.badgeHolder_none (s : State) (badge : BitVec 24)
   (hu : ∀ e' : Fin 16, s.ret.couriers[e'].map Courier.badge ≠ some badge) : s.badgeHolder badge = none := by
  refine List.find?_eq_none.mpr fun e _ => ?_
  have := hu e
  cases h' : s.ret.couriers[e] <;> simp_all

theorem State.endLapse_eq (s : State) : s.endLapse = { s with hatch := if s.hatch = .lapsed then .idle else s.hatch } := by
  unfold State.endLapse; split <;> simp

theorem State.hatchRefusal_eq (s : State) : s.hatchRefusal = firstFailing (s.gateTests .zc ++ [(s.anyCountdownOrDischarged, .zoneFire)]) := by
  unfold State.hatchRefusal State.gateTests
  by_cases h : s.mode .zc = .online <;> cases h1 : (s.fire .zc).isOpen <;> cases h2 : s.anyCountdownOrDischarged <;> simp [h]

/-! ### Zones, lines and the door -/

theorem State.allOffline_eq (s : State) : s.allOffline = !(Zone.all.any fun z => decide (s.mode z ≠ .offline)) := by
  rw [Bool.eq_iff_iff]; simp [State.allOffline]

theorem mem_allLines (n : Fin 12) : n ∈ allLines := by revert n; decide

/-- Some line with a function is asserted (R62, R153, R155). -/
theorem State.anyAsserted_iff (s : State) (f : InputFunction) :
    s.anyAsserted f = true ↔ ∃ n : Fin 12, s.live.inputs[n] = f ∧ s.levels.getLsbD n.val = true := by
  simp only [State.anyAsserted, List.any_eq_true, Bool.and_eq_true, decide_eq_true_eq]
  exact ⟨fun ⟨n, _, h⟩ => ⟨n, h⟩, fun ⟨n, h⟩ => ⟨n, mem_allLines n, h⟩⟩

/-! ### Samples -/

/-- The fault flags after a sample (R138). -/
theorem FaultFlags.capture_eq (f : FaultFlags) (m : Capture) (cls : LoopClass) :
    let catches := m = .all ∨ (f.openSeen = false ∧ f.shortSeen = false ∧ f.alarmSeen = false)
    f.capture m cls =
      { openSeen := f.openSeen || decide (catches ∧ cls = .openCircuit)
        shortSeen := f.shortSeen || decide (catches ∧ cls = .short)
        alarmSeen := f.alarmSeen || decide (catches ∧ cls = .alarm) } := by
  obtain ⟨a, b, c⟩ := f
  cases a <;> cases b <;> cases c <;> cases m <;> cases cls <;> rfl

/-- The heat tests (R111). -/
theorem heatTest_iff (c : ReleaseSettings) (p : Option Reading) (good : Bool) (t : Int) :
    heatTest c (if good then p else none) t = true ↔
      c.heatAbs ≤ t ∨ (good = true ∧ ∃ r, p = some r ∧ r.t + c.heatRise ≤ t) := by
  cases good <;> cases p <;> simp [heatTest]

/-- One line's level is replaced (R181, R183). -/
theorem setLevelBit_getLsbD (levels : BitVec 12) (n k : Fin 12) (level : Bool) :
    (setLevelBit levels n level).getLsbD k.val = if k = n then level else levels.getLsbD k.val := by
  obtain ⟨n, hn⟩ := n; obtain ⟨k, hk⟩ := k
  cases level <;> simp [setLevelBit, hk, Fin.ext_iff] <;> by_cases h : k = n
  all_goals (try subst h)
  all_goals (try simp [*])
  all_goals (try omega)

end Sys2Proof.Machine
end

