-- ==== Sys2Proof/Laws/PerInstr.lean ====
section
/-! SUPPORT. A law of every command, one lemma a constructor: the link and the code that a command is a request of belong
together (R169). -/

namespace Sys2Proof.Laws.CodeBelongs

open Sys2Proof Sys2Proof.Machine

/-- A command that is a request carries a code of the link it is sent on (R169). -/
def Statement (i : Instr) : Prop := ∀ (k : LinkId) (code : Byte), requestOn i = some (k, code) → k.hasCode code = true

/-- A command whose request, if it is one, has a code of its link satisfies the law. -/
theorem of_request {i : Instr} (h : ((requestOn i).all fun x => x.1.hasCode x.2) = true) : Statement i := by
  intro k code hk; simpa [hk] using h

theorem enroll (label : Label) (cls : Byte) (slot : BitVec 16) : Statement (.enroll label cls slot) := of_request (by rfl)
theorem lookup (label : Label) : Statement (.lookup label) := of_request (by rfl)
theorem slotQuery (slot : BitVec 16) : Statement (.slotQuery slot) := of_request (by rfl)
theorem nextLabel (label : Label) : Statement (.nextLabel label) := of_request (by rfl)
theorem place (label : Label) (slot : BitVec 16) : Statement (.place label slot) := of_request (by rfl)
theorem relocate (label : Label) (slot : BitVec 16) : Statement (.relocate label slot) := of_request (by rfl)
theorem unbind (label : Label) : Statement (.unbind label) := of_request (by rfl)
theorem retire (label : Label) : Statement (.retire label) := of_request (by rfl)
theorem clearMark (label : Label) (mark : Byte) : Statement (.clearMark label mark) := of_request (by rfl)
theorem setClass (label : Label) (cls : Byte) : Statement (.setClass label cls) := of_request (by rfl)
theorem extendDue (label : Label) (hours : BitVec 16) : Statement (.extendDue label hours) := of_request (by rfl)
theorem openManifest (direction courier : Byte) (consignment dueHours : BitVec 16) : Statement (.openManifest direction courier consignment dueHours) := of_request (by rfl)
theorem addItem (label : Label) : Statement (.addItem label) := of_request (by rfl)
theorem dropItem (label : Label) : Statement (.dropItem label) := of_request (by rfl)
theorem offerManifest : Statement (.offerManifest) := of_request (by rfl)
theorem cancelManifest : Statement (.cancelManifest) := of_request (by rfl)
theorem readManifest : Statement (.readManifest) := of_request (by rfl)
theorem releaseManifest : Statement (.releaseManifest) := of_request (by rfl)
theorem enrolCourier (entry : Byte) (badge : BitVec 24) (code : AccessCode) : Statement (.enrolCourier entry badge code) := of_request (by rfl)
theorem revokeCourier (entry : Byte) : Statement (.revokeCourier entry) := of_request (by rfl)
theorem unlockCourier (entry : Byte) : Statement (.unlockCourier entry) := of_request (by rfl)
theorem readCourier (entry : Byte) : Statement (.readCourier entry) := of_request (by rfl)
theorem setZoneMode (zone mode : Byte) : Statement (.setZoneMode zone mode) := of_request (by rfl)
theorem setBoundary (boundary value : Byte) : Statement (.setBoundary boundary value) := of_request (by rfl)
theorem setClimate (zone period staleLimit : Byte) (rhTarget : BitVec 16) (rhBand : Byte) (tTarget : BitVec 16) (tBand recovery : Byte) (alert exposure : BitVec 24) : Statement (.setClimate zone period staleLimit rhTarget rhBand tTarget tBand recovery alert exposure) := of_request (by rfl)
theorem readZone (zone : Byte) : Statement (.readZone zone) := of_request (by rfl)
theorem resetDose (zone : Byte) : Statement (.resetDose zone) := of_request (by rfl)
theorem setTrim (zone trimT trimH : Byte) : Statement (.setTrim zone trimT trimH) := of_request (by rfl)
theorem setStartMode (zone mode : Byte) : Statement (.setStartMode zone mode) := of_request (by rfl)
theorem setConditioning (kT kH base : Byte) : Statement (.setConditioning kT kH base) := of_request (by rfl)
theorem readConditioning : Statement (.readConditioning) := of_request (by rfl)
theorem setLoop (loop : Byte) (openMax normalMax alarmMax : BitVec 16) (policy capture : Byte) : Statement (.setLoop loop openMax normalMax alarmMax policy capture) := of_request (by rfl)
theorem loopReturn (loop : Byte) : Statement (.loopReturn loop) := of_request (by rfl)
theorem clearLoopFlags (loop : Byte) (openSeen shortSeen alarmSeen : Bool) : Statement (.clearLoopFlags loop openSeen shortSeen alarmSeen) := of_request (by rfl)
theorem abortRelease (zone : Byte) : Statement (.abortRelease zone) := of_request (by rfl)
theorem manualRelease (zone : Byte) : Statement (.manualRelease zone) := of_request (by rfl)
theorem resetAlarm (zone : Byte) : Statement (.resetAlarm zone) := of_request (by rfl)
theorem bankReloaded : Statement (.bankReloaded) := of_request (by rfl)
theorem setRelease (scope b0 b1 b2 b3 : Byte) : Statement (.setRelease scope b0 b1 b2 b3) := of_request (by rfl)
theorem status : Statement (.status) := of_request (by rfl)
theorem clearEvents (choice : BitVec 24) : Statement (.clearEvents choice) := of_request (by rfl)
theorem setEventEnable (enables : BitVec 24) : Statement (.setEventEnable enables) := of_request (by rfl)
theorem setClock (count : BitVec 32) : Statement (.setClock count) := of_request (by rfl)
theorem readClock : Statement (.readClock) := of_request (by rfl)
theorem setLine (line : Byte) (level : Bool) : Statement (.setLine line level) := of_request (by rfl)
theorem setExpect (levels : BitVec 16) : Statement (.setExpect levels) := of_request (by rfl)
theorem setLineFunction (direction line function zone : Byte) : Statement (.setLineFunction direction line function zone) := of_request (by rfl)
theorem setTimers (handover release openLimit : BitVec 16) : Statement (.setTimers handover release openLimit) := of_request (by rfl)
theorem setClassLimit (cls : Byte) (limit : BitVec 16) : Statement (.setClassLimit cls limit) := of_request (by rfl)
theorem storeSettings : Statement (.storeSettings) := of_request (by rfl)
theorem setLinkRate (link divisor : Byte) : Statement (.setLinkRate link divisor) := of_request (by rfl)
theorem identifyPart : Statement (.identifyPart) := of_request (by rfl)
theorem identify (badge : BitVec 24) (code : AccessCode) : Statement (.identify badge code) := of_request (by rfl)
theorem declare (consignment : BitVec 16) (caseT caseH : Option (BitVec 16)) : Statement (.declare consignment caseT caseH) := of_request (by rfl)
theorem deposit (label : Label) : Statement (.deposit label) := of_request (by rfl)
theorem accept (label : Label) : Statement (.accept label) := of_request (by rfl)
theorem decline (label : Label) : Statement (.decline label) := of_request (by rfl)
theorem view : Statement (.view) := of_request (by rfl)
theorem finish : Statement (.finish) := of_request (by rfl)
theorem leave : Statement (.leave) := of_request (by rfl)
theorem hatchStatus : Statement (.hatchStatus) := of_request (by rfl)
theorem unknownRequest (link : LinkId) (code : Byte) (params : List Byte) : Statement (.unknownRequest link code params) := of_request (by rfl)
theorem frameDiscard (link : LinkId) : Statement (.frameDiscard link) := of_request (by rfl)
theorem frameGapTimeout (link : LinkId) : Statement (.frameGapTimeout link) := of_request (by rfl)
theorem responseSent (link : LinkId) : Statement (.responseSent link) := of_request (by rfl)
theorem handoverTimerExpiry : Statement (.handoverTimerExpiry) := of_request (by rfl)
theorem releaseTimerExpiry : Statement (.releaseTimerExpiry) := of_request (by rfl)
theorem hatchOpenLimitReached : Statement (.hatchOpenLimitReached) := of_request (by rfl)
theorem verificationWindowExpiry (zone : Zone) : Statement (.verificationWindowExpiry zone) := of_request (by rfl)
theorem countdownExpiry (zone : Zone) : Statement (.countdownExpiry zone) := of_request (by rfl)
theorem releasePulseEnd : Statement (.releasePulseEnd) := of_request (by rfl)
theorem climateSample (zone : Zone) (counts : RawCounts) : Statement (.climateSample zone counts) := of_request (by rfl)
theorem loopSample (loop : Zone) (count : BitVec 12) : Statement (.loopSample loop count) := of_request (by rfl)
theorem elapsedMinuteTick : Statement (.elapsedMinuteTick) := of_request (by rfl)
theorem elapsedHourTick : Statement (.elapsedHourTick) := of_request (by rfl)
theorem siteClockSecond : Statement (.siteClockSecond) := of_request (by rfl)
theorem storeWriteComplete : Statement (.storeWriteComplete) := of_request (by rfl)
theorem inputLineChange (line : Fin 12) (level : Bool) : Statement (.inputLineChange line level) := of_request (by rfl)
theorem resetAssert : Statement (.resetAssert) := of_request (by rfl)
theorem powerLoss : Statement (.powerLoss) := of_request (by rfl)
theorem startUp : Statement (.startUp) := of_request (by rfl)
theorem startUpComplete (pins : BitVec 12) (climate : PerZone RawCounts) (loops : PerZone (BitVec 12)) : Statement (.startUpComplete pins climate loops) := of_request (by rfl)
theorem backupBelowRetention : Statement (.backupBelowRetention) := of_request (by rfl)
theorem characterReceived (link : LinkId) (char : Byte) (stopOk : Bool) : Statement (.characterReceived link char stopOk) := of_request (by rfl)

end Sys2Proof.Laws.CodeBelongs
end

