-- ==== Sys2Proof/Tests/Slice0.lean ====
section
/-! SUPPORT. The model's own tests: the well-formedness checks, single steps of the spec's worked examples with the results the
spec prints, and for every statement with hypotheses a witness that something meets them. -/

namespace Sys2Proof.Tests

set_option Elab.async false

open Host Sys2Proof Sys2Proof.Machine

/-! ## What the tests are made of -/

/-- A running part: the factory values live, every zone ONLINE and QUIET, the site clock valid at ten hours. -/
def part : State :=
  { State.reset with
    phase := .running
    monitorFell := false
    ret := { Retained.afterLoss with clock := 36000, clockValid := true }
    zones := PerZone.tabulate fun _ => ZoneState.atStart .online }

/-- The state after a command. -/
def after (c : Instr) (s : State) : State :=
  match exec c s with
  | .next t => t
  | .fault _ => s
  | .refused _ => s

/-- The next state of an outcome. -/
def landed (o : Outcome State Fault Refusal) : Option State :=
  match o with
  | .next t => some t
  | .fault _ => none
  | .refused _ => none

/-- The state in which every timer that runs has run down: any of its events may come. -/
def due (s : State) : State :=
  { s with
    zones := PerZone.tabulate fun z =>
      { s.zones.get z with
        sampleLeft := 0, loopLeft := 0
        fire := match (s.zones.get z).fire with
          | .prealarm _ => .prealarm 0
          | .countdown _ false => .countdown 0 false
          | f => f }
    bank := match s.bank with
      | .committed z _ => .committed z 0
      | b => b
    handoverTimer := s.handoverTimer.map fun _ => 0
    releaseTimer := s.releaseTimer.map fun _ => 0
    opening := s.opening.map fun o => { o with left := 0 }
    fl := { s.fl with gapLeft := 0 }
    hl := { s.hl with gapLeft := 0 }
    secondLeft := 0
    minuteLeft := 0
    hourLeft := 0 }

/-- The state after an event that a timer brings, once the timer has run down. -/
def afterDue (c : Instr) (s : State) : State := after c (due s)

/-- The status and the results of the response a link sends. -/
def answerOn (k : LinkId) (s : State) : Option (Status × List Byte) :=
  match (s.link k).request with
  | .sending r => some (r.status, r.results)
  | _ => none

/-- The status with which the facility link answers a request. -/
def facilitySays (c : Instr) (s : State) : Option Status := (answerOn .facility (after c s)).map Prod.fst

/-- The status with which the hatch link answers a request. -/
def hatchSays (c : Instr) (s : State) : Option Status := (answerOn .hatch (after c s)).map Prod.fst

/-- AA000009. -/
def aa9 : Label := #v[0x41, 0x41, 0x30, 0x30, 0x30, 0x30, 0x30, 0x39]
/-- AB000120. -/
def ab120 : Label := #v[0x41, 0x42, 0x30, 0x30, 0x30, 0x31, 0x32, 0x30]
/-- AB500000. -/
def ab500 : Label := #v[0x41, 0x42, 0x35, 0x30, 0x30, 0x30, 0x30, 0x30]
/-- AC003007. -/
def ac3007 : Label := #v[0x41, 0x43, 0x30, 0x30, 0x33, 0x30, 0x30, 0x37]
/-- AD000001. -/
def ad1 : Label := #v[0x41, 0x44, 0x30, 0x30, 0x30, 0x30, 0x30, 0x31]
/-- A malformed label: its last character is small. -/
def badLabel : Label := #v[0x41, 0x44, 0x30, 0x30, 0x30, 0x30, 0x30, 0x61]

/-- A record of class 0, never moved. -/
def record (l : Label) (x : RecordState) (home : Option (Fin 1536)) : Record :=
  { label := l, cls := 0, state := x, home := home, marks := Marks.none, count := 0 }

/-- The part with these records in its table. -/
def holding (rs : List Record) : State := part.setRecords rs

/-- A zone's climate state and dose, in the part. -/
def inClimate (s : State) (z : Zone) (dose : Nat) (x : ClimateState) : State := s.setAccount z { dose := dose, state := x }

/-- A courier of badge 40912 and code 315270. -/
def courier (attempts : Nat) (locked : Bool) : Courier := { badge := 40912, code := 315270, attempts := attempts, locked := locked }

/-- The digits of 315270. -/
def rightCode : AccessCode := #v[0x33, 0x31, 0x35, 0x32, 0x37, 0x30]
/-- The digits of 315720. -/
def wrongCode : AccessCode := #v[0x33, 0x31, 0x35, 0x37, 0x32, 0x30]
/-- Five digits and a letter. -/
def badCode : AccessCode := #v[0x33, 0x31, 0x35, 0x37, 0x32, 0x41]

/-- Entry 5 of the courier table filled. -/
def withCourier (c : Courier) (s : State) : State := { s with ret := { s.ret with couriers := s.ret.couriers.set 5 (some c) } }

/-- Courier 5 is enrolled and on the link, and the handover timer runs. -/
def visiting (s : State) : State :=
  { withCourier (courier 0 false) s with hatch := .identified 5, handoverTimer := some 120000 }

/-- An outbound manifest of courier 5, consignment 7001, 72 due hours. -/
def outbound (x : Stage) (items : List Item) : Manifest :=
  { stage := x, route := .outbound 72, courier := 5, consignment := 7001, items := items }

/-- An inbound manifest of courier 5 with case values 240 and 420. -/
def inbound (x : Stage) (items : List Item) : Manifest :=
  { stage := x, route := .inbound (some 240) (some 420), courier := 5, consignment := 7102, items := items }

/-- The part with a manifest. -/
def carrying (m : Manifest) (s : State) : State := { s with manifest := some m }

/-! ## Well-formedness and decoding -/

/-- A request code that belongs to the link is no UNKNOWN_REQUEST (R169). -/
theorem test_wellFormed_refuses_code_of_the_link :
    (Instr.unknownRequest .facility 0x10 []).wellFormed = false ∧ (Instr.unknownRequest .hatch 0x60 []).wellFormed = false ∧
    (Instr.unknownRequest .facility 0x60 []).wellFormed = true := by decide +kernel

/-- A frame holds at most 199 parameter bytes (R166). -/
theorem test_wellFormed_refuses_long_frame :
    (Instr.unknownRequest .facility 0x00 (List.replicate 200 0)).wellFormed = false ∧
    (Instr.unknownRequest .facility 0x00 (List.replicate 199 0)).wellFormed = true := by decide +kernel

/-- No row of the table gives bits, so no word spells a command. -/
theorem test_no_word_is_a_command : decodeTableWord 16 0x1234 = none ∧ part.withFetchWord 16 0x1234 = part := by decide +kernel

/-! ## The spec's worked examples -/

/-- Section 1.4, steps 1 and 2: AB000120 is SHELVED in Z2 without a mark; AC003007 is UNPLACED and EXPOSED by ZC. -/
theorem test_enroll :
    let s := inClimate part .zc 6000 .excursion
    (after (.enroll ab120 2 300) s).ret.records = [{ record ab120 .shelved (some 300) with cls := 2 }] ∧
    (after (.enroll ac3007 2 0xFFFF) s).ret.records =
      [{ record ac3007 .unplaced none with cls := 2, marks := { Marks.none with exposed := true } }] := by decide +kernel

/-- Section 1.4, steps 3, 4 and 8: a bound slot is SLOT_TAKEN, a free one is taken, and a label in the table EXISTS. -/
theorem test_place :
    let s := holding [record ab120 .shelved (some 300), record ac3007 .unplaced none]
    facilitySays (.place ac3007 300) s = some .slotTaken ∧
    (after (.place ac3007 530) s).ret.records = [record ab120 .shelved (some 300), record ac3007 .shelved (some 530)] ∧
    facilitySays (.enroll ab120 3 300) s = some .alreadyExists := by decide +kernel

/-- Section 1.4, steps 6 and 7. -/
theorem test_relocate :
    let s := holding [record ab120 .shelved (some 300), record ac3007 .shelved (some 530)]
    facilitySays (.relocate ab120 530) s = some .slotTaken ∧
    ((after (.relocate ab120 301) s).find ab120).map Record.home = some (some 301) := by decide +kernel

/-- Section 1.4, step 5: the mark is removed. -/
theorem test_clearMark :
    let marked := { record ac3007 .shelved (some 530) with marks := { Marks.none with exposed := true } }
    (after (.clearMark ac3007 0) (holding [marked])).ret.records = [record ac3007 .shelved (some 530)] := by decide +kernel

/-- Section 1.8, steps 2 to 7: enrolled labels stand in order, a retired one is gone, and the walk goes on in order. -/
theorem test_walk :
    let s := holding [record ab120 .unplaced none, record ac3007 .unplaced none, record ad1 .unplaced none]
    (after (.enroll aa9 0 0xFFFF) s).labelIndex = [aa9, ab120, ac3007, ad1] ∧
    (after (.enroll ab500 0 0xFFFF) s).labelIndex = [ab120, ab500, ac3007, ad1] ∧
    (after (.retire ac3007) s).labelIndex = [ab120, ad1] ∧
    (answerOn .facility (after (.nextLabel emptyLabel) s)).map (fun x => x.2.take 8) = some ab120.toList ∧
    facilitySays (.nextLabel ad1) s = some .notFound := by decide +kernel

/-- Section 2.4: an entry into OFFLINE clears loop 3, and leaves loop 4 ISOLATED at counter 0. -/
theorem test_setZoneMode_clears_the_loop :
    let worn (x : LoopState) (n run : Nat) : Loop :=
      { Loop.atStart with state := x, trouble := n, run := run, flags := { openSeen := true, shortSeen := true, alarmSeen := false } }
    let s := (part.setLoop .z3 (worn .warn 110 0)).setLoop .z4 (worn .isolated 255 40)
    ((after (.setZoneMode 3 0) s).zones.get .z3).loop = Loop.atStart ∧
    ((after (.setZoneMode 4 0) s).zones.get .z4).loop = { Loop.atStart with state := .isolated } := by decide +kernel

/-- Section 2.7, steps 4, 5 and 7: ORDER, SLOTS_BOUND for slot 790, and the boundary once the slot is free. -/
theorem test_setBoundary :
    let s (home : Option (Fin 1536)) : State :=
      { holding [record ab120 (.out 5 7001 20) home] with zones := PerZone.tabulate fun _ => ZoneState.atStart .offline }
    facilitySays (.setBoundary 2 13) (s (some 790)) = some .order ∧
    facilitySays (.setBoundary 3 15) (s (some 790)) = some .slotsBound ∧
    answerOn .facility (after (.setBoundary 3 15) (s none)) = some (.ok, [3, 7, 15, 15, 19]) := by decide +kernel

/-- Section 3.7, steps 1, 2, 4, 5 and 7 of the lockout. -/
theorem test_identify :
    let s (n : Nat) (locked : Bool) := withCourier (courier n locked) part
    let entry (t : State) := t.ret.couriers[(5 : Fin 16)]
    hatchSays (.identify 40912 wrongCode) (s 0 false) = some .codeRefused ∧
    entry (after (.identify 40912 wrongCode) (s 0 false)) = some (courier 1 false) ∧
    hatchSays (.identify 40913 rightCode) (s 1 false) = some .notFound ∧
    entry (after (.identify 40912 wrongCode) (s 2 false)) = some (courier 3 true) ∧
    (after (.identify 40912 wrongCode) (s 2 false)).flag .courierLocked = true ∧
    hatchSays (.identify 40912 rightCode) (s 3 true) = some .courierLocked ∧
    (after (.identify 40912 rightCode) (s 0 false)).hatch = .identified 5 := by decide +kernel

/-- Section 3.7, step 6: UNLOCK_COURIER. -/
theorem test_unlockCourier :
    (after (.unlockCourier 5) (withCourier (courier 3 true) part)).ret.couriers[(5 : Fin 16)] = some (courier 0 false) := by
  decide +kernel

/-- Section 3.7: Z2's COUNTDOWN closes the manifest FIRE, ends the identification and asserts the lock. -/
theorem test_countdown_ends_the_handover :
    let s := (carrying (outbound .active []) (visiting part)).setFire .z2 .alarmed
    let t := after (.manualRelease 2) s
    s.lockAsserted = false ∧ t.lockAsserted = true ∧ t.hatch = .idle ∧ t.manifest.map Manifest.stage = some (.closed .fire) ∧
    t.fire .z2 = .countdown 30000 false := by decide +kernel

/-- Section 3.7: a door opened at time 80 under the asserted lock is forced, and its limit is held. -/
theorem test_door_is_supervised :
    let s : State := { part with live := { part.live with inputs := part.live.inputs.set 0 .hatchDoor } }
    let opened := after (.inputLineChange 0 true) s
    opened.flag .hatchForced = true ∧ opened.opening = some { left := 60000, held := false } ∧
    (afterDue .hatchOpenLimitReached { s with opening := opened.opening }).flag .hatchHeld = true := by decide +kernel

/-- Section 4.10, steps 1 to 6. -/
theorem test_listing :
    let s := withCourier (courier 0 false) (holding [record ab120 .shelved (some 301)])
    let item : Item := { label := ab120, state := .listed }
    (after (.openManifest 0 5 7001 72) s).manifest = some (outbound .building []) ∧
    (after (.addItem ab120) (carrying (outbound .building []) s)).manifest = some (outbound .building [item]) ∧
    ((after (.addItem ab120) (carrying (outbound .building []) s)).find ab120).map Record.state = some .staged ∧
    facilitySays (.addItem ab120) (carrying (outbound .building [])
      (s.modifyRecord ab120 fun r => { r with marks := { r.marks with worn := true } })) = some .marked := by decide +kernel

/-- Section 4.10, step 12: the accepted item goes OUT at due hour 277849 with count 40 and WORN, the declined one reverts. -/
theorem test_finish :
    let s := holding [{ record ab120 .staged (some 301) with cls := 2, count := 39 }, record ac3007 .staged (some 1105)]
    let s := visiting
      { s with
        ret := { s.ret with clock := 1000000000 }
        live := { s.live with classLimits := s.live.classLimits.set 2 40 } }
    let s := carrying (outbound .active [{ label := ab120, state := .accepted }, { label := ac3007, state := .declined }]) s
    let t := after .finish s
    t.ret.records =
      [{ record ab120 (.out 5 7001 277849) (some 301) with
          cls := 2, count := 40, marks := { Marks.none with worn := true } }, record ac3007 .shelved (some 1105)] ∧
    answerOn .hatch t = some (.ok, [1, 1]) ∧ t.releaseTimer = some 300000 ∧ t.handoverTimer = some 120000 ∧
    t.flag .manifestClosed = true := by decide +kernel

/-- Section 5.9, sample 1: reading 210 and 462, weight 82, dose 6620, EXCURSION, and the record in Z3 marked EXPOSED. -/
theorem test_climateSample :
    let s := inClimate (holding [record ac3007 .shelved (some 530), record ad1 .staged (some 600)]) .z3 5800 .alert
    let t := afterDue (.climateSample .z3 { t := 1514, h := 1892 }) s
    (t.zones.get .z3).sensor.reading = some { t := 210, rh := 462 } ∧ (t.zones.get .z3).sensor.weight = 82 ∧
    t.ret.climate.get .z3 = { dose := 6620, state := .excursion } ∧
    t.ret.records.map (fun r => r.marks.exposed) = [true, false] ∧ t.flag .climateExcursion = true := by decide +kernel

/-- Section 5.9, sample 3: a humidity count of 4095 is a sensor fault, STALE at stale count 1 with the dose held. -/
theorem test_sensor_fault :
    let good := afterDue (.climateSample .z3 { t := 1465, h := 1557 }) (inClimate part .z3 6620 .excursion)
    let t := afterDue (.climateSample .z3 { t := 1466, h := 4095 }) good
    good.ret.climate.get .z3 = { dose := 6570, state := .excursion } ∧ (t.zones.get .z3).sensor.status = .stale ∧
    (t.zones.get .z3).sensor.staleCount = 1 ∧ (t.zones.get .z3).sensor.reading = some { t := 190, rh := 380 } ∧
    t.ret.climate.get .z3 = { dose := 6570, state := .excursion } := by decide +kernel

/-- R94: a SET_CLIMATE restarts the sample timer, so a sample behind it is not due before the new period has passed. -/
theorem test_set_climate_restarts_the_timer :
    let s : State := due { part with zones := PerZone.tabulate fun _ => ZoneState.atStart .offline }
    let set := after (.setClimate 3 60 3 350 30 180 20 5 600 6000) s
    answerOn .facility set = some (.ok, [60, 3, 1, 94, 30, 0, 180, 20, 5, 0, 2, 88, 0, 0x17, 0x70]) ∧
    (set.zones.get .z3).sampleLeft = 60000 ∧
    landed (exec (.climateSample .z3 { t := 1465, h := 1557 }) set) = some set ∧
    ((after (.climateSample .z2 { t := 1465, h := 1557 }) set).zones.get .z2).sensor.status = .fresh := by decide +kernel

/-- Section 6.8: the tick that takes one hold from 1 to 0 and another from 2 to 1; and a tick in PREALARM. -/
theorem test_minute_tick :
    let s := holding [record ab120 (.conditioning 1) none, record ac3007 (.conditioning 2) (some 40)]
    let s := s.setZone .zc { s.zones.get .zc with sensor := { Sensor.atStart with status := .fresh } }
    let t := afterDue .elapsedMinuteTick s
    t.ret.records = [record ab120 .ready none, record ac3007 (.conditioning 1) (some 40)] ∧ t.flag .holdDone = true ∧
    (afterDue .elapsedMinuteTick (s.setFire .zc (.prealarm 60000))).ret.records = s.ret.records := by decide +kernel

/-- Section 4.10, steps 2 to 4 of the inbound handover, and case A of section 6.2: a hold of 126 minutes. -/
theorem test_deposit :
    let out (l : Label) (e : Fin 16) : Record := record l (.out e 6880 9) none
    let s := visiting (holding [{ out ab120 5 with marks := { Marks.none with overdue := true } }, out ac3007 9])
    let declared := after (.declare 7050 (some 283) (some 620)) s
    let m : Manifest := { stage := .active, route := .inbound (some 283) (some 620), courier := 5, consignment := 7050, items := [] }
    declared.manifest = some m ∧ part.holdFor (some 283) (some 620) = 126 ∧
    (after (.deposit ab120) (carrying m s)).find ab120 = some (record ab120 (.conditioning 126) none) ∧
    answerOn .hatch (after (.deposit ac3007) (carrying m s)) = some (.ok, [3, 0, 126, 1]) := by decide +kernel

/-- Section 4.10, steps 5 to 7: a SHELVED record is CONFLICT, a label of no record UNKNOWN, a listed one EXISTS. -/
theorem test_deposit_of_what_is_not_out :
    let m : Manifest :=
      { stage := .active, route := .inbound none none, courier := 5, consignment := 7050, items := [{ label := aa9, state := .unknown }] }
    let s := carrying m (visiting (holding [record ad1 .shelved (some 700)]))
    answerOn .hatch (after (.deposit ad1) s) = some (.ok, [4, 0xFF, 0xFF, 0xFF]) ∧
    answerOn .hatch (after (.deposit ab500) s) = some (.ok, [5, 0xFF, 0xFF, 0xFF]) ∧
    hatchSays (.deposit aa9) s = some .alreadyExists := by decide +kernel

/-- Section 4.10, steps 8 to 11: the manifest closes TIMEOUT, the link LAPSED; FINISH is TOO_LATE, and LEAVE ends it. -/
theorem test_timeout :
    let s := carrying (outbound .active []) (visiting part)
    let t := afterDue .handoverTimerExpiry s
    let lapsed : State := { part with hatch := .lapsed, manifest := t.manifest, releaseTimer := t.releaseTimer }
    t.manifest = some (outbound (.closed .timeout) []) ∧ t.hatch = .lapsed ∧ t.releaseTimer = some 300000 ∧
    t.flags = EventFlag.courierMissed.mask ||| EventFlag.manifestClosed.mask ∧
    hatchSays .finish lapsed = some .tooLate ∧ (after .leave lapsed).hatch = .idle ∧
    (afterDue .releaseTimerExpiry lapsed).manifest = none := by decide +kernel

/-- R92: an expiry that waits behind FINISH or ACCEPT is gone: each restarted the timer. -/
theorem test_expiry_behind_a_request :
    let s (xs : List Item) : State := { carrying (outbound .active xs) (visiting part) with handoverTimer := some 0 }
    let finished := after .finish (s [])
    let accepted := after (.accept ab120) (s [{ label := ab120, state := .listed }])
    finished.hatch = .identified 5 ∧ landed (exec .handoverTimerExpiry finished) = some finished ∧
    accepted.handoverTimer = some 120000 ∧ landed (exec .handoverTimerExpiry accepted) = some accepted := by decide +kernel

/-- Section 7.8, samples 12 and 32 of a cut cable. -/
theorem test_loop_isolates :
    let s (n : Nat) (x : LoopState) := part.setLoop .z6 { Loop.atStart with trouble := n, state := x }
    let t := afterDue (.loopSample .z6 160) (s 88 .sound)
    let u := afterDue (.loopSample .z6 160) (s 248 .degraded)
    (t.zones.get .z6).loop.state = .warn ∧ t.flag .loopWarn = true ∧ (t.zones.get .z6).loop.trouble = 96 ∧
    (u.zones.get .z6).loop.state = .isolated ∧ u.flag .loopIsolated = true ∧ (u.zones.get .z6).loop.trouble = 255 := by
  decide +kernel

/-- Section 7.8: the 64th NORMAL sample under AUTO returns the loop, with LOOP_RECOVERED. -/
theorem test_loop_recovers :
    let t := afterDue (.loopSample .z6 1200) (part.setLoop .z6 { Loop.atStart with trouble := 255, state := .isolated, run := 63 })
    (t.zones.get .z6).loop = { Loop.atStart with latest := some (300, .normal) } ∧ t.flag .loopRecovered = true := by decide +kernel

/-- Section 8.8, times 0.0 and 0.5: two ALARM samples; and at 8.0 a T of 590 at or above heat_abs is a second knock. -/
theorem test_knocks :
    let first := afterDue (.loopSample .z2 3000) part
    let hot := afterDue (.climateSample .z2 { t := 2458, h := 1557 }) (part.setFire .z2 .alarmed)
    first.fire .z2 = .prealarm 60000 ∧ first.flag .zonePrealarm = true ∧ (afterDue (.loopSample .z2 3000) first).fire .z2 = .alarmed ∧
    (hot.zones.get .z2).sensor.reading.map Reading.t = some 590 ∧ hot.fire .z2 = .countdown 30000 false := by decide +kernel

/-- Section 8.8, time 55.0, Z4 first: the bank is committed, Z4's records are marked but the OUT one, and Z2 is STARVED. -/
theorem test_race_for_the_bank :
    let s := holding [record ab120 .shelved (some 301), record ac3007 .shelved (some 800), record ad1 (.out 5 7001 20) (some 802)]
    let s := (s.setFire .z2 (.countdown 0 false)).setFire .z4 (.countdown 0 false)
    let t := afterDue (.countdownExpiry .z4) s
    t.bank = .committed .z4 3000 ∧ t.fire .z4 = .discharged ∧ t.store.bank = some .spent ∧ t.flag .discharge = true ∧
    t.ret.records.map (fun r => r.marks.agent) = [false, true, false] ∧ (afterDue (.countdownExpiry .z2) t).fire .z2 = .starved := by
  decide +kernel

/-- Section 8.8, times 56, 58, 900 and 960. -/
theorem test_after_the_discharge :
    let s : State := { part.setFire .z4 .discharged with bank := .committed .z4 2000 }
    let s := s.setLoop .z4 { Loop.atStart with latest := some (300, .normal) }
    facilitySays (.resetAlarm 4) s = some .wrongState ∧ (afterDue .releasePulseEnd s).bank = .spent ∧
    (after (.resetAlarm 4) { s with bank := .spent }).fire .z4 = .quiet ∧
    facilitySays (.resetAlarm 4) (({ s with bank := .spent } : State).setLoop .z4 { Loop.atStart with latest := some (750, .alarm) })
      = some .stillActive ∧
    (after .bankReloaded { s with bank := .spent }).bank = .ready := by decide +kernel

/-- Section 9.4: the frame of LOOKUP of AB000120, written out with CHECK 0x40, ends with its request TAKEN. -/
theorem test_check_byte :
    landed (takeAll ([0xA5, 0x09, 0x11, 0x41, 0x42, 0x30, 0x30, 0x30, 0x31, 0x32, 0x30, 0x40].map fun c =>
      .characterReceived .facility c true) part) =
      some { part with fl := { part.fl with request := .taken (.lookup ab120) } } := by decide +kernel

/-- Section 9.4: a second DEPOSIT while the first is TAKEN is discarded with HATCH_LINK_FAULT. -/
theorem test_overrun :
    let s : State := { part with hl := { part.hl with request := .taken (.deposit ab120) } }
    landed (exec (.deposit ac3007) s) = some { s with flags := EventFlag.hatchLinkFault.mask } := by decide +kernel

/-- R165: a hatch frame in reception at SET_LINK_RATE is answered at the old rate, whatever frame is discarded in between. -/
theorem test_rate_of_a_frame_in_reception :
    let chars (s : State) (cs : List Byte) : State := cs.foldl (fun s c => after (.characterReceived .hatch c true) s) s
    let begun := chars part [0xA5, 0x01]
    let set := after (.setLinkRate 1 31) begun
    let overrun := afterDue (.frameGapTimeout .hatch) (chars (chars set [0x68, 0x97]) [0xA5, 0x09])
    let answering := after .hatchStatus overrun
    set.hl.rate = 63 ∧ overrun.hl.request = .taken .hatchStatus ∧ overrun.flag .hatchLinkFault = true ∧ overrun.hl.rate = 63 ∧
    answering.hl.isSending = true ∧ answering.hl.rate = 63 ∧ (after (.responseSent .hatch) answering).hl.rate = 31 := by
  decide +kernel

/-- R190: a new part's start-up completes with RESTARTED and RETAINED_LOST. -/
theorem test_first_start_up :
    let t := after (.startUpComplete 0 (PerZone.tabulate fun _ => { t := 1465, h := 1557 }) (PerZone.tabulate fun _ => 1200)) State.reset
    t.phase = .running ∧ t.flags = EventFlag.restarted.mask ||| EventFlag.retainedLost.mask ∧ t.mode .z1 = .offline ∧
    (t.zones.get .zc).sensor.reading = some { t := 190, rh := 380 } := by decide +kernel

/-! ## Witnesses of the statements: the step and the links

Each shows states and operands that meet the hypotheses of the statement it is named after, clause by clause, and where the
clause is about a request that its owner takes, an answer OK. -/

theorem witness_StepTakesFrontCommand :
    { part with pending := [.status, .readClock] : State }.pending = .status :: [.readClock] ∧ part.pending = [] ∧
    part.phase = .running ∧ State.reset.phase ≠ .running := by decide +kernel
/-- The part whose facility link holds a request TAKEN. -/
def facilityTaken (c : Instr) : State := { part with fl := { part.fl with request := .taken c } }

/-- The part whose facility link sends a response. -/
def facilitySending : State := { part with fl := { part.fl with request := .sending { code := 0xD0, status := .ok, results := [] } } }

/-- The part whose hatch link receives a frame. -/
def hatchReceiving : State := { part with hl := { part.hl with rx := .body 9 [0x61], gapLeft := 50 } }

theorem witness_RequestsOnTheirLinks :
    requestOn .status = some (.facility, 0x50) ∧ part.takes .facility .status ∧ (facilityTaken .status).takes .facility .status ∧
    (part.phase = .running ∧ ((facilityTaken .readClock).link .facility).rx = .hunting ∧
      ((facilityTaken .readClock).link .facility).request = .taken .readClock ∧ (.readClock : Instr) ≠ .status) ∧
    (requestOn .view = some (.hatch, 0x65) ∧ hatchReceiving.phase = .running ∧ (hatchReceiving.link .hatch).rx ≠ .hunting ∧
      (hatchReceiving.link .hatch).request ≠ .taken .view) ∧
    (facilitySending.link .facility).isSending = true ∧ State.reset.phase ≠ .running := by decide +kernel

theorem witness_RequestsOnTheirLinks_unknown :
    LinkId.facility.hasCode 0x1B = false ∧ LinkId.hatch.hasCode 0x69 = false ∧ (part.link .facility).rx = .hunting ∧
    (part.link .facility).request = .waiting ∧ ((facilityTaken .status).link .facility).request = .taken .status ∧
    facilitySays (.unknownRequest .facility 0x1B []) part = some .unknownRequest ∧
    (hatchReceiving.phase = .running ∧ (hatchReceiving.link .hatch).rx ≠ .hunting) ∧
    (facilitySending.phase = .running ∧ (facilitySending.link .facility).isSending = true) ∧ State.reset.phase ≠ .running := by
  decide +kernel

theorem witness_ResponsesAndDiscards :
    (part.link .facility).rx = .hunting ∧ (hatchReceiving.link .hatch).rx ≠ .hunting ∧
    (List.replicate 307 (0 : Byte)).length ≤ 307 := by decide +kernel

theorem witness_CharactersAreReceived :
    let receiving (x : Receiver) : State := { part with fl := { part.fl with rx := x, gapLeft := 50 } }
    part.phase = .running ∧ (facilitySending.link .facility).isSending = true ∧ (part.link .facility).isSending = false ∧
    (part.link .facility).rx = .hunting ∧ (0xA4 : Byte) ≠ 0xA5 ∧ ((receiving .awaitLength).link .facility).rx ≠ .hunting ∧
    ((receiving .awaitLength).link .facility).rx = .awaitLength ∧ (0 : Byte).toNat = 0 ∧ 200 < (201 : Byte).toNat ∧
    (1 ≤ (1 : Byte).toNat ∧ (1 : Byte).toNat ≤ 200) ∧ (1 ≤ (200 : Byte).toNat ∧ (200 : Byte).toNat ≤ 200) ∧
    (((receiving (.body 1 [])).link .facility).rx = .body 1 [] ∧ ([] : List Byte).length < 1) ∧
    ((receiving (.body 1 [0x50])).link .facility).rx = .body 1 [0x50] ∧ ([0x50] : List Byte).length = 1 ∧
    ([0x50] ++ [0xB0] : List Byte).foldl (fun a b => a + b) (BitVec.ofNat 8 1) ≠ 0 ∧
    ((receiving .awaitLength).link .facility).gapLeft ≠ 0 ∧ ((due (receiving .awaitLength)).link .facility).gapLeft = 0 ∧
    ((due (receiving .awaitLength)).link .facility).rx ≠ .hunting := by decide +kernel

theorem witness_WholeFrameIsTaken :
    let sums (ps : List Byte) (code check : Byte) : Prop :=
      ps.length ≤ 199 ∧ ([BitVec.ofNat 8 (ps.length + 1), code] ++ ps ++ [check]).foldl (fun a b => a + b) 0 = 0
    (part.phase = .running ∧ (part.link .facility).request = .waiting ∧ (part.link .facility).rx = .hunting) ∧
    (sums [] 0x50 0xAF ∧ requestOf 0x50 [] = some .status) ∧ (sums [] 0x1B 0xE4 ∧ LinkId.facility.hasCode 0x1B = false) ∧
    (sums (List.replicate 199 0) 0x50 0xE8 ∧ requestOf 0x50 (List.replicate 199 0) = none) ∧
    (((facilityTaken .status).link .facility).request = .taken .status ∧
      ((facilityTaken .status).link .facility).rx = .hunting) ∧
    (requestOn (.setLine 11 true) = some (.facility, 0x55) ∧ requestOf 0x55 [11, 1] = some (.setLine 11 true)) ∧
    (requestOf 0x68 [] = some .hatchStatus ∧ (0x68 : Byte) ∉ ([0x42, 0x55, 0x61] : List Byte)) ∧
    (requestOf 0x68 [0] = none ∧ requestOf 0x69 [] = none ∧ LinkId.hatch.hasCode 0x68 = true) ∧
    requestOf 0x61 [0x1B, 0xBE, 2, 0, 240, 0x01, 0xA4] = some (.declare 7102 none (some 420)) := by decide +kernel

theorem witness_LinkRatesApplyWhenQuiet :
    (part.phase = .running ∧ (facilitySending.link .facility).isSending = true ∧ (part.link .facility).isSending = false) ∧
    part.takes .facility (.setLinkRate 2 31) ∧ 1 < (2 : Byte).toNat ∧
    part.takes .facility (.setLinkRate 0 31) ∧ facilitySays (.setLinkRate 0 31) part = some .ok ∧
    part.takes .facility (.setLinkRate 1 31) ∧ facilitySays (.setLinkRate 1 31) part = some .ok ∧
    (after (.setLinkRate 1 31) part).hl.rate = 31 ∧ (after (.setLinkRate 1 31) hatchReceiving).hl.rate = 63 := by decide +kernel

theorem witness_StatusAndConditioningLayout :
    let s : State := { part with flags := EventFlag.countdown.mask ||| EventFlag.retainedLost.mask }
    s.flag .countdown = true ∧ s.flag .discharge = false ∧ highestPending s.flags = 2 := by decide +kernel

/-! ## Witnesses: the custody table -/

theorem witness_EnrollMakesARecord :
    (part.takes .facility (.enroll badLabel 0 0) ∧ labelOk badLabel = false) ∧
    (part.takes .facility (.enroll ab120 8 0) ∧ classOf 8 = none) ∧
    (part.takes .facility (.enroll ab120 0 1536) ∧ slotParam 1536 = none) ∧
    (part.takes .facility (.enroll ab120 7 1535) ∧ labelOk ab120 = true ∧ classOf 7 = some 7 ∧ slotParam 1535 = some (some 1535) ∧
      facilitySays (.enroll ab120 7 1535) part = some .ok) ∧
    (part.takes .facility (.enroll ab120 0 0xFFFF) ∧ slotParam 0xFFFF = some none ∧
      facilitySays (.enroll ab120 0 0xFFFF) part = some .ok) := by decide +kernel

theorem witness_LookupsReportTheTable :
    let s := holding [record ab120 .shelved (some 300), record ac3007 .unplaced none]
    (s.takes .facility (.lookup ab120) ∧ facilitySays (.lookup ab120) s = some .ok) ∧
    (s.takes .facility (.slotQuery 1536) ∧ slotOf 1536 = none) ∧
    (s.takes .facility (.slotQuery 300) ∧ slotOf 300 = some 300 ∧ facilitySays (.slotQuery 300) s = some .ok) ∧
    s.find ab120 = some (record ab120 .shelved (some 300)) ∧ s.find ad1 = none ∧
    s.slotHolder 300 = some (record ab120 .shelved (some 300)) ∧ s.slotHolder 301 = none := by decide +kernel

theorem witness_LookupsReportTheTable_walk :
    let s := holding [record ab120 .shelved (some 300), record ac3007 .unplaced none]
    (s.takes .facility (.nextLabel badLabel) ∧ labelOk badLabel = false ∧ badLabel ≠ emptyLabel) ∧
    (s.takes .facility (.nextLabel ac3007) ∧ labelOk ac3007 = true ∧
      ∀ x ∈ s.ret.records, ¬ (ac3007 = emptyLabel ∨ labelBefore ac3007 x.label = true)) ∧
    (s.takes .facility (.nextLabel ab120) ∧ labelOk ab120 = true ∧ record ac3007 .unplaced none ∈ s.ret.records ∧
      labelBefore ab120 ac3007 = true ∧ s.ret.records.Pairwise (fun a b => labelBefore a.label b.label = true) ∧
      (∀ x ∈ s.ret.records, (ab120 = emptyLabel ∨ labelBefore ab120 x.label = true) → labelBefore x.label ac3007 = false) ∧
      facilitySays (.nextLabel ab120) s = some .ok) := by decide +kernel

theorem witness_PlaceAndRelocate :
    let s := holding [record ab120 .shelved (some 300), record ac3007 .ready (some 40)]
    (s.takes .facility (.place ac3007 1536) ∧ slotParam 1536 = none) ∧
    (s.takes .facility (.place ac3007 0xFFFF) ∧ slotParam 0xFFFF = some none ∧ facilitySays (.place ac3007 0xFFFF) s = some .ok) ∧
    (s.takes .facility (.place ac3007 1535) ∧ slotParam 1535 = some (some 1535) ∧ facilitySays (.place ac3007 1535) s = some .ok) ∧
    (s.takes .facility (.relocate ab120 0xFFFF) ∧ slotOf 0xFFFF = none) ∧
    (s.takes .facility (.relocate ab120 0) ∧ slotOf 0 = some 0 ∧ facilitySays (.relocate ab120 0) s = some .ok) := by decide +kernel

theorem witness_UnbindAndRetire :
    let s := holding [record ab120 (.out 5 7001 20) (some 300), record ac3007 .ready (some 40)]
    (s.takes .facility (.unbind ab120) ∧ facilitySays (.unbind ab120) s = some .ok ∧
      facilitySays (.unbind ac3007) s = some .ok) ∧
    (s.takes .facility (.retire ac3007) ∧ facilitySays (.retire ac3007) s = some .ok) := by decide +kernel

theorem witness_RecordFieldRequests :
    let s := holding [record ab120 (.out 5 7001 20) (some 300)]
    (s.takes .facility (.clearMark ab120 4) ∧ 3 < (4 : Byte).toNat) ∧
    (s.takes .facility (.clearMark ab120 3) ∧ (3 : Byte).toNat ≤ 3 ∧ facilitySays (.clearMark ab120 3) s = some .ok) ∧
    (s.takes .facility (.setClass ab120 8) ∧ classOf 8 = none) ∧
    (s.takes .facility (.setClass ab120 7) ∧ classOf 7 = some 7 ∧ facilitySays (.setClass ab120 7) s = some .ok) ∧
    (s.takes .facility (.extendDue ab120 0) ∧ (0 : BitVec 16).toNat < 1) ∧
    (s.takes .facility (.extendDue ab120 8761) ∧ 8760 < (8761 : BitVec 16).toNat) ∧
    (s.takes .facility (.extendDue ab120 1) ∧ 1 ≤ (1 : BitVec 16).toNat ∧ (1 : BitVec 16).toNat ≤ 8760 ∧
      facilitySays (.extendDue ab120 1) s = some .ok) ∧
    (s.takes .facility (.extendDue ab120 8760) ∧ (8760 : BitVec 16).toNat ≤ 8760 ∧
      facilitySays (.extendDue ab120 8760) s = some .ok) := by decide +kernel

theorem witness_RecordOperations :
    (record ab120 .shelved (some 0)).state = .shelved ∧
    ((record ab120 .staged (some 1535)).state = .staged ∧ (record ab120 .staged (some 1535)).home = some 1535) ∧
    ({ record ab120 .staged (some 0) with count := 65535 : Record }).count ≤ 65535 ∧
    (record ab120 (.out 5 7001 20) none).state = .out 5 7001 20 ∧
    (record ab120 (.conditioning 1) none).state = .conditioning 1 ∧
    (record ab120 .ready none).state ≠ .shelved ∧ (record ab120 .ready none).state ≠ .staged ∧
    (record ab120 .ready none).isOut = false ∧ (record ab120 .ready none).isConditioning = false ∧
    (record ab120 .unplaced none).state = .unplaced ∧
    (let off : State := { part with zones := PerZone.tabulate fun _ => ZoneState.atStart .offline }
    off.mode .zc ≠ .online ∧ part.mode .zc = .online ∧ (part.fire .zc).isOpen = true ∧
      (part.setFire .zc .alarmed).mode .zc = .online ∧ ((part.setFire .zc .alarmed).fire .zc).isOpen = false) ∧
    (let rs := [record aa9 .ready none, record ad1 .ready none]
    (holding rs).ret.records[1]? = some (record ad1 .ready none) ∧
      rs.Pairwise (fun x y => labelBefore x.label y.label = true) ∧ ∀ x ∈ rs, x.label ≠ (record ab120 .ready none).label) := by
  decide +kernel

/-- The numbers of the spec's code: 315270, and six nines. -/
theorem witness_ParametersHaveTheirRanges :
    codeOf rightCode = some 315270 ∧ codeOf (Vector.replicate 6 0x39) = some 999999 ∧ codeOf badCode = none := by decide +kernel

/-! ## Witnesses: zones and settings -/

theorem witness_ZonesPartitionTheSlots :
    Bounds.factory.wf ∧ ({ b1 := 23, b2 := 23, b3 := 23, b4 := 23, b5 := 23 : Bounds }).wf ∧
    ({ b1 := 0, b2 := 0, b3 := 0, b4 := 0, b5 := 0 : Bounds }).wf ∧
    (Bounds.factory.unitsOf .z1).isSome = true ∧ ({ b1 := 23, b2 := 23, b3 := 23, b4 := 23, b5 := 23 : Bounds }).unitsOf .z6 = none ∧
    (holding [record ab120 .shelved (some 301), record ad1 .ready none]).ret.records.Pairwise
      (fun a b => a.home = none ∨ a.home ≠ b.home) := by decide +kernel

/-- The part with every zone OFFLINE. -/
def offline : State := { part with zones := PerZone.tabulate fun _ => ZoneState.atStart .offline }

theorem witness_SetBoundaryMovesUnits :
    part.ret.bounds.wf ∧ (part.takes .facility (.setBoundary 0 4) ∧ (0 : Byte).toNat < 1) ∧
    (part.takes .facility (.setBoundary 6 4) ∧ 5 < (6 : Byte).toNat) ∧
    (part.takes .facility (.setBoundary 5 24) ∧ 23 < (24 : Byte).toNat) ∧
    (offline.takes .facility (.setBoundary 1 0) ∧ Zone.z1.number = 1 ∧ Zone.z2.number = 1 + 1 ∧
      facilitySays (.setBoundary 1 0) offline = some .ok) ∧
    (offline.takes .facility (.setBoundary 5 23) ∧ Zone.z5.number = 5 ∧ Zone.z6.number = 5 + 1 ∧ (23 : Byte).toNat ≤ 23 ∧
      facilitySays (.setBoundary 5 23) offline = some .ok) := by decide +kernel

theorem witness_SetZoneModeTakesTheMode :
    (part.takes .facility (.setZoneMode 0 1) ∧ zoneOf 0 = none) ∧ (part.takes .facility (.setZoneMode 8 1) ∧ zoneOf 8 = none) ∧
    (part.takes .facility (.setZoneMode 1 3) ∧ modeOf 3 = none) ∧
    (part.takes .facility (.setZoneMode 7 2) ∧ zoneOf 7 = some .zc ∧ modeOf 2 = some .frozen ∧
      facilitySays (.setZoneMode 7 2) part = some .ok) ∧
    (part.takes .facility (.setZoneMode 1 0) ∧ zoneOf 1 = some .z1 ∧ modeOf 0 = some .offline ∧
      facilitySays (.setZoneMode 1 0) part = some .ok) := by decide +kernel

theorem witness_GlobalSettingsAreSet :
    (part.takes .facility (.setClassLimit 8 0) ∧ classOf 8 = none) ∧
    (part.takes .facility (.setClassLimit 7 65535) ∧ classOf 7 = some 7 ∧ facilitySays (.setClassLimit 7 65535) part = some .ok) ∧
    (part.takes .facility (.setStartMode 8 0) ∧ zoneOf 8 = none) ∧ (part.takes .facility (.setStartMode 1 3) ∧ modeOf 3 = none) ∧
    (part.takes .facility (.setStartMode 7 1) ∧ zoneOf 7 = some .zc ∧ modeOf 1 = some .online ∧
      facilitySays (.setStartMode 7 1) part = some .ok) ∧
    (part.takes .facility (.setTimers 0 601 300) ∧ answerOn .facility (after (.setTimers 0 601 300) part) =
      some (.ok, [0, 30, 2, 88, 1, 44])) ∧
    (part.takes .facility (.setConditioning 61 30 0) ∧ answerOn .facility (after (.setConditioning 61 30 0) part) =
      some (.ok, [60, 30, 0])) ∧
    (part.takes .facility (.setEventEnable 0) ∧ facilitySays (.setEventEnable 0) part = some .ok) := by decide +kernel

theorem witness_ReportsChangeNothing :
    let s := carrying (outbound .building []) (withCourier (courier 0 false) part)
    (s.takes .facility (.readZone 7) ∧ zoneOf 7 = some .zc ∧ facilitySays (.readZone 7) s = some .ok) ∧
    (s.takes .facility (.readCourier 5) ∧ entryOf 5 = some 5 ∧ facilitySays (.readCourier 5) s = some .ok) ∧
    (s.takes .facility .readManifest ∧ facilitySays .readManifest s = some .ok) ∧
    (s.takes .facility .readConditioning ∧ s.takes .facility .status ∧ s.takes .facility .readClock ∧
      s.takes .facility .identifyPart ∧ s.takes .hatch .hatchStatus ∧ hatchSays .hatchStatus s = some .ok) := by decide +kernel

/-! ## Witnesses: couriers, the hatch and the manifest -/

theorem witness_CourierTableRequests :
    let s := withCourier (courier 3 true) part
    (part.takes .facility (.enrolCourier 16 1 rightCode) ∧ entryOf 16 = none) ∧
    (part.takes .facility (.enrolCourier 5 1 badCode) ∧ codeOf badCode = none) ∧ part.takes .facility (.enrolCourier 5 0 rightCode) ∧
    (part.takes .facility (.enrolCourier 15 1 rightCode) ∧ entryOf 15 = some 15 ∧ codeOf rightCode = some 315270 ∧
      (1 : BitVec 24) ≠ 0 ∧ facilitySays (.enrolCourier 15 1 rightCode) part = some .ok) ∧
    (s.takes .facility (.revokeCourier 16) ∧ s.takes .facility (.unlockCourier 16)) ∧
    (s.takes .facility (.revokeCourier 5) ∧ entryOf 5 = some 5 ∧ facilitySays (.revokeCourier 5) s = some .ok) ∧
    (s.takes .facility (.unlockCourier 0) ∧ entryOf 0 = some 0 ∧ s.ret.couriers[(0 : Fin 16)] = none) ∧
    (s.takes .facility (.unlockCourier 5) ∧ s.ret.couriers[(5 : Fin 16)] = some (courier 3 true) ∧
      facilitySays (.unlockCourier 5) s = some .ok) := by decide +kernel

theorem witness_IdentifyPresentsACourier :
    let s (n : Nat) (locked : Bool) := withCourier (courier n locked) part
    let sole (t : State) : Prop := ∀ e' : Fin 16, e' ≠ 5 → t.ret.couriers[e'].map Courier.badge ≠ some 40912
    (part.takes .hatch (.identify 1 badCode) ∧ codeOf badCode = none) ∧ codeOf rightCode = some 315270 ∧
    ((visiting part).takes .hatch (.identify 40912 rightCode) ∧ (visiting part).hatch = .identified 5) ∧
    (part.takes .hatch (.identify 1 rightCode) ∧ part.identified = none ∧
      ∀ e : Fin 16, part.ret.couriers[e].map Courier.badge ≠ some 1) ∧
    ((s 3 true).takes .hatch (.identify 40912 rightCode) ∧ (s 3 true).identified = none ∧
      (s 3 true).ret.couriers[(5 : Fin 16)] = some (courier 3 true) ∧ (courier 3 true).badge = 40912 ∧ sole (s 3 true) ∧
      (courier 3 true).locked = true) ∧
    ((s 2 false).takes .hatch (.identify 40912 wrongCode) ∧ sole (s 2 false) ∧ codeOf wrongCode = some 315720 ∧
      315720 ≠ (courier 2 false).code) ∧
    ((s 0 false).takes .hatch (.identify 40912 rightCode) ∧ 315270 = (courier 0 false).code ∧ (s 0 false).manifest = none ∧
      hatchSays (.identify 40912 rightCode) (s 0 false) = some .ok) ∧
    ({ outbound .offered [] with courier := 4 : Manifest }).stage = .offered ∧
    hatchSays (.identify 40912 rightCode) (carrying { outbound .offered [] with courier := 4 } (s 0 false)) = some .wrongCourier := by decide +kernel

theorem witness_HatchRequestsNeedACourier :
    let lapsed : State := { part with hatch := .lapsed }
    requestOn .view = some (.hatch, 0x65) ∧ part.takes .hatch .view ∧ part.hatch = .idle ∧ lapsed.takes .hatch .view ∧
    lapsed.hatch = .lapsed ∧ part.takes .hatch .leave ∧ lapsed.takes .hatch .leave := by decide +kernel

theorem witness_LockAndOutputsFollowTheState :
    part.phase = .running ∧ part.lockAsserted = true ∧ (carrying (outbound .active []) (visiting part)).lockAsserted = false := by
  decide +kernel

theorem witness_ManifestsAreClaimedAndOffered :
    let s := withCourier (courier 0 false) part
    let listed := outbound .building [{ label := ab120, state := .listed }]
    (s.takes .facility (.openManifest 1 5 1 1) ∧ (1 : Byte) ≠ 0) ∧ (s.takes .facility (.openManifest 0 16 1 1) ∧ entryOf 16 = none) ∧
    (s.takes .facility (.openManifest 0 5 1 0) ∧ (0 : BitVec 16).toNat < 1) ∧
    (s.takes .facility (.openManifest 0 5 1 8761) ∧ 8760 < (8761 : BitVec 16).toNat) ∧
    (s.takes .facility (.openManifest 0 5 1 8760) ∧ entryOf 5 = some 5 ∧ (8760 : BitVec 16).toNat ≤ 8760 ∧
      facilitySays (.openManifest 0 5 1 8760) s = some .ok) ∧
    ((visiting part).takes .hatch (.declare 1 none (some 1001)) ∧ (visiting part).hatch = .identified 5 ∧
      hatchSays (.declare 1 none (some 1001)) (visiting part) = some .ok) ∧
    (s.takes .facility .offerManifest ∧ s.manifest = none) ∧
    ((carrying listed s).takes .facility .offerManifest ∧ (carrying listed s).manifest = some listed ∧
      facilitySays .offerManifest (carrying listed s) = some .ok) := by decide +kernel

theorem witness_ItemsAreListedAndDropped :
    let s := carrying (outbound .building [{ label := ac3007, state := .listed }])
      (holding [record ab120 .shelved (some 0), record ac3007 .staged (some 40)])
    s.manifest = some (outbound .building [{ label := ac3007, state := .listed }]) ∧
    (s.takes .facility (.addItem badLabel) ∧ labelOk badLabel = false) ∧
    (s.takes .facility (.addItem ab120) ∧ labelOk ab120 = true ∧ s.find ab120 = some (record ab120 .shelved (some 0)) ∧
      (record ab120 .shelved (some 0)).home = some 0 ∧ facilitySays (.addItem ab120) s = some .ok) ∧
    (s.takes .facility (.addItem ad1) ∧ labelOk ad1 = true ∧ s.find ad1 = none) ∧
    (s.takes .facility (.dropItem ac3007) ∧ s.find ac3007 = some (record ac3007 .staged (some 40)) ∧
      facilitySays (.dropItem ac3007) s = some .ok) ∧
    (s.takes .facility (.dropItem ad1) ∧
      ∀ i ∈ (outbound .building [{ label := ac3007, state := .listed }]).items, i.label ≠ ad1) ∧
    (part.manifest = none ∧ part.takes .facility (.addItem ab120) ∧ part.takes .facility (.dropItem ab120)) := by decide +kernel

theorem witness_ClosureOfAManifest :
    let s := visiting (holding [record ab120 .staged (some 0), record ac3007 .unplaced none])
    let m := outbound .active [{ label := ab120, state := .accepted }]
    (inbound .active []).route.isOutbound = false ∧ m.route = .outbound 72 ∧
    s.ret.records[0]? = some (record ab120 .staged (some 0)) ∧ s.ret.records[1]? = some (record ac3007 .unplaced none) ∧
    (∀ i ∈ m.items, i.label ≠ ac3007) ∧ { label := ab120, state := .accepted } ∈ m.items ∧ (m.items.map Item.label).Nodup ∧
    s.hatch = .identified 5 ∧ part.identified = none := by decide +kernel

theorem witness_ManifestsAreClosedAndFreed :
    let s := carrying (outbound .active []) (visiting part)
    let closed := carrying (outbound (.closed .left) []) (visiting part)
    (part.takes .facility .cancelManifest ∧ part.takes .facility .releaseManifest ∧ part.manifest = none) ∧
    (s.takes .facility .cancelManifest ∧ s.manifest = some (outbound .active []) ∧ facilitySays .cancelManifest s = some .ok) ∧
    (closed.takes .facility .releaseManifest ∧ facilitySays .releaseManifest closed = some .ok) ∧
    ((visiting part).takes .hatch .finish ∧ (visiting part).hatch = .identified 5 ∧ (visiting part).manifest = none) ∧
    (s.takes .hatch .finish ∧ s.hatch = .identified 5 ∧ hatchSays .finish s = some .ok) ∧
    (s.takes .hatch .leave ∧ (outbound .active []).stage = .active) ∧
    (closed.takes .hatch .leave ∧ (outbound (.closed .left) []).stage ≠ .active ∧ hatchSays .leave closed = some .ok) := by
  decide +kernel

theorem witness_CourierChoosesAndViews :
    let m := outbound .active [{ label := ab120, state := .listed }]
    let s := carrying m (visiting (holding [record ab120 .staged (some 0)]))
    s.hatch = .identified 5 ∧ s.manifest = some m ∧
    (s.takes .hatch (.accept ab120) ∧ hatchSays (.accept ab120) s = some .ok) ∧
    (s.takes .hatch (.decline ab120) ∧ hatchSays (.decline ab120) s = some .ok) ∧
    (s.takes .hatch .view ∧ hatchSays .view s = some .ok) ∧
    ((visiting part).manifest = none ∧ (visiting part).takes .hatch (.accept ab120) ∧ (visiting part).takes .hatch (.decline ab120) ∧
      (visiting part).takes .hatch .view) := by decide +kernel

theorem witness_DepositRecordsACartridge :
    let m := inbound .active []
    let s := carrying m (visiting (holding [record ab120 (.out 5 6880 9) none, record ac3007 .ready none]))
    s.hatch = .identified 5 ∧ (s.takes .hatch (.deposit badLabel) ∧ labelOk badLabel = false) ∧
    ((visiting part).takes .hatch (.deposit ab120) ∧ labelOk ab120 = true ∧ (visiting part).manifest = none) ∧
    (s.manifest = some m ∧ m.stage = .active ∧ m.route = .inbound (some 240) (some 420)) ∧
    (s.takes .hatch (.deposit ad1) ∧ s.find ad1 = none ∧ hatchSays (.deposit ad1) s = some .ok) ∧
    (s.takes .hatch (.deposit ac3007) ∧ s.find ac3007 = some (record ac3007 .ready none) ∧ (record ac3007 .ready none).isOut = false ∧
      (∀ x ∈ s.ret.records, x.label = ac3007 → x = record ac3007 .ready none) ∧ hatchSays (.deposit ac3007) s = some .ok) ∧
    (s.takes .hatch (.deposit ab120) ∧ s.find ab120 = some (record ab120 (.out 5 6880 9) none) ∧
      hatchSays (.deposit ab120) s = some .ok) := by decide +kernel

theorem witness_DepositRecordsACartridge_hold :
    part.holdFor (some 180) (some 350) < 720 ∧ part.holdFor (some (-400)) (some 1000) < 720 ∧
    ({ part with live := { part.live with conditioning := { kT := 60, kH := 30, base := 120 } } }).holdFor (some 850) (some 1000)
      = 720 := by decide +kernel

theorem witness_HandoverTimersExpire :
    let s : State := { carrying (outbound .active []) (visiting part) with handoverTimer := some 0 }
    let closed : State := { carrying (outbound (.closed .left) []) part with releaseTimer := some 0 }
    (s.phase = .running ∧ s.handoverTimer = some 0 ∧ s.manifest = some (outbound .active []) ∧ (outbound .active []).stage = .active) ∧
    (outbound .offered []).stage = .offered ∧ { visiting part with handoverTimer := some 0 : State }.manifest = none ∧
    (visiting part).handoverTimer = some 120000 ∧ { visiting part with handoverTimer := some 1 : State }.handoverTimer = some 1 ∧
    (closed.phase = .running ∧ closed.releaseTimer = some 0) ∧ { closed with releaseTimer := some 1 : State }.releaseTimer = some 1 ∧
    part.handoverTimer = none ∧ part.releaseTimer = none := by decide +kernel

/-! ## Witnesses: lines, climate and loops -/

/-- The part with functions given to its first input lines. -/
def wired (fs : List InputFunction) : State :=
  { part with live := { part.live with inputs := Vector.ofFn fun n => fs.getD n.val .none } }

theorem witness_DoorOpeningsAreSupervised :
    let s := wired [.hatchDoor, .hatchDoor]
    let opened : State := { s with levels := 1, opening := some { left := 0, held := false } }
    (s.phase = .running ∧ s.live.inputs[(0 : Fin 12)] = .hatchDoor ∧ s.levels.getLsbD 0 ≠ true) ∧
    (¬ ∃ k : Fin 12, k ≠ 0 ∧ s.live.inputs[k] = .hatchDoor ∧ s.levels.getLsbD k.val = true) ∧
    (opened.live.inputs[(1 : Fin 12)] = .hatchDoor ∧ opened.levels.getLsbD 1 ≠ true ∧
      ∃ k : Fin 12, k ≠ 1 ∧ opened.live.inputs[k] = .hatchDoor ∧ opened.levels.getLsbD k.val = true) ∧
    (opened.live.inputs[(0 : Fin 12)] = .hatchDoor ∧ opened.levels.getLsbD 0 ≠ false ∧
      ¬ ∃ k : Fin 12, k ≠ 0 ∧ opened.live.inputs[k] = .hatchDoor ∧ opened.levels.getLsbD k.val = true) ∧
    opened.opening = some { left := 0, held := false } ∧ s.opening = none := by decide +kernel

theorem witness_InputLinesAreTaken :
    let s := wired [.none, .abort, .abort, .manualRelease .z6, .bankLow]
    let held : State := { s with levels := 2 }
    s.phase = .running ∧ s.levels.getLsbD 11 = false ∧ s.levels.getLsbD 0 ≠ true ∧ s.live.inputs[(0 : Fin 12)] = .none ∧
    s.live.inputs[(11 : Fin 12)] = .none ∧ s.live.inputs[(1 : Fin 12)] = .abort ∧
    (¬ ∃ k : Fin 12, k ≠ 1 ∧ s.live.inputs[k] = .abort ∧ s.levels.getLsbD k.val = true) ∧
    (held.levels.getLsbD 2 ≠ true ∧ ∃ k : Fin 12, k ≠ 2 ∧ held.live.inputs[k] = .abort ∧ held.levels.getLsbD k.val = true) ∧
    s.live.inputs[(3 : Fin 12)] = .manualRelease .z6 ∧ s.live.inputs[(4 : Fin 12)] = .bankLow := by decide +kernel

theorem witness_LineRequests :
    (part.takes .facility (.setLine 12 true) ∧ lineOf 12 = none) ∧
    (part.takes .facility (.setLine 11 true) ∧ lineOf 11 = some 11 ∧ facilitySays (.setLine 11 true) part = some .ok) ∧
    (part.takes .facility (.setExpect 0xF001) ∧ facilitySays (.setExpect 0xF001) part = some .ok ∧
      ∃ n : Fin 12, part.live.inputs[n] = .none ∧ part.levels.getLsbD n.val = part.live.expected.getLsbD n.val ∧
        part.levels.getLsbD n.val ≠ ((0xF001 : BitVec 16).setWidth 12).getLsbD n.val) ∧
    (part.takes .facility (.setExpect 0xF000) ∧
      ¬ ∃ n : Fin 12, part.live.inputs[n] = .none ∧ part.levels.getLsbD n.val = part.live.expected.getLsbD n.val ∧
        part.levels.getLsbD n.val ≠ ((0xF000 : BitVec 16).setWidth 12).getLsbD n.val) ∧
    (offline.takes .facility (.setLineFunction 2 0 0 0) ∧ 1 < (2 : Byte).toNat) ∧
    (offline.takes .facility (.setLineFunction 0 12 0 0) ∧ lineOf 12 = none) ∧
    (offline.takes .facility (.setLineFunction 0 0 3 0) ∧ inputFunctionOf 3 0 = none) ∧
    (offline.takes .facility (.setLineFunction 1 0 6 0) ∧ outputFunctionOf 6 0 = none) ∧
    (offline.takes .facility (.setLineFunction 1 11 4 7) ∧ outputFunctionOf 4 7 = some (.release .zc) ∧
      facilitySays (.setLineFunction 1 11 4 7) offline = some .ok) ∧
    (offline.takes .facility (.setLineFunction 0 0 3 1) ∧ inputFunctionOf 3 1 = some (.manualRelease .z1) ∧
      facilitySays (.setLineFunction 0 0 3 1) offline = some .ok) := by decide +kernel

theorem witness_ReadingsAndWeights :
    ZoneSettings.factory.wf = true ∧
    (let c : ClimateSettings := { ZoneSettings.factory.climate with rhTarget := 0, rhBand := 0, tTarget := -100, tBand := 0 }
     ({ ZoneSettings.factory with climate := c } : ZoneSettings).wf = true ∧ weightOf c { t := 1250, rh := 1000 } = 3700) := by
  decide +kernel

theorem witness_ClimateSampleIsAccounted :
    let isEnd (n : BitVec 12) : Prop := n.toNat = 0 ∨ n.toNat = 4095
    (part.phase = .running ∧ (part.zones.get .z2).sampleLeft = 0 ∧ (part.zones.get .z3).sampleLeft = 0) ∧
    ((after (.climateSample .z3 { t := 1465, h := 1557 }) part).zones.get .z3).sampleLeft ≠ 0 ∧ (isEnd 0 ∨ isEnd 1) ∧ (isEnd 1 ∨ isEnd 4095) ∧ ¬ (isEnd 1 ∨ isEnd 4094) ∧
    ((part.setFire .z2 .alarmed).zones.get .z2).fire = .alarmed ∧
    (part.settings .z2).release.heatAbs ≤ convertT 2458 (part.settings .z2).trims.t ∧ part.fire .z2 ≠ .alarmed := by decide +kernel

theorem witness_ClimateRequests :
    (part.takes .facility (.resetDose 0) ∧ zoneOf 0 = none) ∧
    (offline.takes .facility (.resetDose 7) ∧ zoneOf 7 = some .zc ∧ facilitySays (.resetDose 7) offline = some .ok) ∧
    (offline.takes .facility (.setClimate 8 1 1 0 0 0 0 0 1 2) ∧ zoneOf 8 = none) ∧
    (offline.takes .facility (.setClimate 1 61 0 1001 201 0x8000 101 255 0 0) ∧ zoneOf 1 = some .z1 ∧
      facilitySays (.setClimate 1 61 0 1001 201 0x8000 101 255 0 0) offline = some .ok) ∧
    (offline.takes .facility (.setTrim 0 0 0) ∧ zoneOf 0 = none) ∧
    (offline.takes .facility (.setTrim 1 0x80 51) ∧ answerOn .facility (after (.setTrim 1 0x80 51) offline) = some (.ok, [0xCE, 50])) := by
  decide +kernel

theorem witness_MinuteTickCountsHolds :
    let fresh (s : State) : State := s.setZone .zc { s.zones.get .zc with sensor := { Sensor.atStart with status := .fresh } }
    let s := due (fresh (holding [record ab120 (.conditioning 1) none]))
    part.minuteLeft ≠ 0 ∧ ((due part).phase = .running ∧ (due part).minuteLeft = 0 ∧ ((due part).zones.get .zc).sensor.status ≠ .fresh) ∧
    (s.phase = .running ∧ s.minuteLeft = 0 ∧ (s.zones.get .zc).sensor.status = .fresh ∧ s.climate .zc ≠ .excursion ∧ s.fire .zc = .quiet) ∧
    (record ab120 (.conditioning 1) none ∈ s.ret.records ∧ 1 ≤ 1) ∧
    ((due (fresh part)).ret.records = [] ∧ ((due (fresh part)).zones.get .zc).sensor.status = .fresh) := by decide +kernel

theorem witness_LoopFollowsItsSamples :
    let c := ZoneSettings.factory.loop
    (c.openMax < c.normalMax ∧ c.normalMax < c.alarmMax) ∧
    (classify c 0 = .openCircuit ∧ classify c 120 = .openCircuit ∧ classify c 121 = .normal ∧ classify c 480 = .normal ∧
      classify c 481 = .alarm ∧ classify c 860 = .alarm ∧ classify c 861 = .short ∧ classify c 1023 = .short) ∧
    Loop.atStart.state ≠ .isolated ∧ (247 + 8 ≤ 255 ∧ 255 < 248 + 8) ∧
    ({ Loop.atStart with state := .isolated, run := 62 } : Loop).run < 63 ∧
    63 ≤ ({ Loop.atStart with state := .isolated, run := 63 } : Loop).run := by decide +kernel

theorem witness_LoopSampleIsTaken :
    (part.phase = .running ∧ (part.zones.get .z2).loopLeft = 0) ∧
    ((after (.loopSample .z2 1200) part).zones.get .z2).loopLeft ≠ 0 ∧ ((part.zones.get .z2).loop.state ≠ .isolated ∧ classify (part.settings .z2).loop (1924 / 4) = .alarm) ∧
    ¬ ((part.zones.get .z2).loop.state ≠ .isolated ∧ classify (part.settings .z2).loop (1923 / 4) = .alarm) := by decide +kernel

theorem witness_LoopRequests :
    let isolated := part.setLoop .zc { Loop.atStart with state := .isolated, trouble := 255 }
    (offline.takes .facility (.setLoop 0 0 1 2 0 0) ∧ zoneOf 0 = none) ∧
    (offline.takes .facility (.setLoop 1 0 1 2 4 0) ∧ policyOf 4 = none) ∧
    (offline.takes .facility (.setLoop 1 0 1 2 0 2) ∧ captureOf 2 = none) ∧
    (offline.takes .facility (.setLoop 7 0 1 1023 3 1) ∧ zoneOf 7 = some .zc ∧ policyOf 3 = some .onRequest ∧
      captureOf 1 = some .first ∧ facilitySays (.setLoop 7 0 1 1023 3 1) offline = some .ok) ∧
    facilitySays (.setLoop 7 0 1 1024 3 1) offline = some .badParam ∧
    (part.takes .facility (.loopReturn 8) ∧ zoneOf 8 = none) ∧
    (isolated.takes .facility (.loopReturn 7) ∧ facilitySays (.loopReturn 7) isolated = some .ok) ∧
    (part.takes .facility (.clearLoopFlags 8 true true true) ∧ part.takes .facility (.clearLoopFlags 1 true false true) ∧
      zoneOf 1 = some .z1 ∧ facilitySays (.clearLoopFlags 1 true false true) part = some .ok) := by decide +kernel

/-! ## Witnesses: fire, events, the store and start-up -/

theorem witness_KnocksMoveTheFireSequence :
    let alarmed := part.setFire .zc .alarmed
    (part.zones.get .zc).fire = .quiet ∧ ((part.setFire .zc (.prealarm 1)).zones.get .zc).fire = .prealarm 1 ∧
    (alarmed.zones.get .zc).fire = .alarmed ∧ (part.zones.get .zc).fire ≠ .alarmed ∧
    ((alarmed.settings .zc).release.enabled = true ∧ (alarmed.zones.get .zc).mode ≠ .offline) ∧
    ((carrying (outbound .building []) alarmed).manifest = some (outbound .building []) ∧ (outbound .building []).stage.isOpen = true) ∧
    (alarmed.manifest = none ∧ alarmed.hatch = .idle ∧ (visiting alarmed).hatch = .identified 5 ∧ (visiting alarmed).manifest = none) ∧
    (part.takes .facility (.manualRelease 0) ∧ zoneOf 0 = none) ∧
    (alarmed.takes .facility (.manualRelease 7) ∧ answerOn .facility (after (.manualRelease 7) alarmed) = some (.ok, [7, 3])) := by
  decide +kernel

theorem witness_FireTimersExpire :
    let low : State := { wired [.bankLow] with levels := 1 }
    let running (s : State) := s.setFire .z1 (.countdown 0 false)
    (part.phase = .running ∧ ((part.setFire .z1 (.prealarm 0)).zones.get .z1).fire = .prealarm 0 ∧ (part.zones.get .z1).fire = .quiet) ∧
    (((running part).zones.get .z1).fire = .countdown 0 false ∧ (running part).bank = .ready ∧
      ∀ n : Fin 12, (running part).live.inputs[n] = .bankLow → (running part).levels.getLsbD n.val = false) ∧
    (((running low).zones.get .z1).fire = .countdown 0 false ∧
      ¬ ∀ n : Fin 12, low.live.inputs[n] = .bankLow → low.levels.getLsbD n.val = false) ∧
    ((part.setFire .z1 (.countdown 30000 true)).zones.get .z1).fire ≠ .countdown 30000 false ∧
    ({ part with bank := .committed .z1 0 } : State).bank = .committed .z1 0 ∧ part.bank = .ready := by decide +kernel

theorem witness_FireRequests :
    let counting := part.setFire .z1 (.countdown 30000 false)
    let spent : State := { part with bank := .spent }
    let quiet := (part.setFire .z1 .starved).setLoop .z1 { Loop.atStart with latest := some (300, .normal) }
    (part.takes .facility (.abortRelease 0) ∧ part.takes .facility (.resetAlarm 8) ∧ zoneOf 0 = none ∧ zoneOf 8 = none) ∧
    (counting.takes .facility (.abortRelease 1) ∧ facilitySays (.abortRelease 1) counting = some .ok) ∧
    (quiet.takes .facility (.resetAlarm 1) ∧ facilitySays (.resetAlarm 1) quiet = some .ok) ∧
    (spent.takes .facility .bankReloaded ∧ facilitySays .bankReloaded spent = some .ok) ∧
    (part.takes .facility (.setRelease 8 0 0 0 0) ∧ 7 < (8 : Byte).toNat) ∧
    (offline.takes .facility (.setRelease 0 9 61 0 0) ∧
      answerOn .facility (after (.setRelease 0 9 61 0 0) offline) = some (.ok, [10, 60, 1])) ∧
    (offline.takes .facility (.setRelease 7 1 0 199 4) ∧ zoneOf 7 = some .zc ∧
      answerOn .facility (after (.setRelease 7 1 0 199 4) offline) = some (.ok, [1, 0, 200, 5])) := by decide +kernel

theorem witness_FlagsAndAttention :
    part.takes .facility (.clearEvents 1) ∧
    facilitySays (.clearEvents 1) { part with flags := 0x800001 } = some .ok ∧
    ({ part with flags := 1 } : State).attentionLow = true ∧ part.attentionLow = false := by decide +kernel

theorem witness_ClockAndOverdueCheck :
    let late := holding [record ab120 (.out 5 7001 10) none]
    (late.ret.records[0]? = some (record ab120 (.out 5 7001 10) none) ∧ 10 ≤ late.ret.clock / 3600 ∧
      (record ab120 (.out 5 7001 10) none).marks.overdue = false) ∧
    (part.ret.records = [] ∧ ¬ 11 ≤ part.ret.clock / 3600) ∧
    (part.takes .facility (.setClock 0) ∧ facilitySays (.setClock 0xFFFFFFFF) part = some .ok) ∧
    (part.hourLeft ≠ 0 ∧ part.secondLeft ≠ 0) ∧
    ((due part).phase = .running ∧ (due part).hourLeft = 0 ∧ (due part).secondLeft = 0 ∧ (due part).ret.clockValid = true) ∧
    due { part with ret := { part.ret with clockValid := false } } =
      { due part with ret := { part.ret with clockValid := false } } ∧
    (due { part with phase := .unpowered }).monitorFell = false ∧
    ((due { part with phase := .unpowered, monitorFell := true }).monitorFell = true ∧
      (due { part with phase := .unpowered, monitorFell := true }).secondLeft = 0) := by decide +kernel

/-- The part with a store write in progress. -/
def writing : State := { part with store := { part.store with valid := false, writing := some part.live } }

theorem witness_StoreWritesAreMade :
    (part.takes .facility .storeSettings ∧ facilitySays .storeSettings part = some .ok ∧
      facilitySays .storeSettings writing = some .storeBusy) ∧
    (writing.phase = .running ∧ writing.store.writing = some part.live) ∧ part.store.writing = none := by decide +kernel

theorem witness_ResetAndPowerLossStopThePart :
    let inReset : State := { part with phase := .inReset }
    let unpowered : State := { part with phase := .unpowered }
    writing.storeBusy = true ∧ part.storeBusy = false ∧ writing.started = true ∧ State.reset.started = true ∧ writing.phase ≠ .unpowered ∧
    inReset.started = false ∧ inReset.phase ≠ .unpowered ∧ unpowered.phase = .unpowered ∧ unpowered.phase ≠ .running ∧
    State.reset.phase ≠ .running ∧ requestOn .elapsedMinuteTick = none ∧ requestOn (.climateSample .zc { t := 1465, h := 1557 }) = none := by
  decide +kernel

theorem witness_StartUpRebuildsThePart :
    ({ part with phase := .unpowered } : State).phase = .unpowered ∧ ({ part with phase := .inReset } : State).phase = .inReset ∧
    part.started = true ∧ State.reset.started = true := by decide +kernel

theorem witness_StartUpCompletes :
    let s : State := { wired [.hatchDoor] with phase := .starting false }
    s.phase = .starting false ∧
    (∃ n : Fin 12, s.live.inputs[n] = .hatchDoor ∧ (1 : BitVec 12).getLsbD n.val = true) ∧
    (¬ ∃ n : Fin 12, s.live.inputs[n] = .hatchDoor ∧ (0 : BitVec 12).getLsbD n.val = true) ∧
    (∃ n : Fin 12, s.live.inputs[n] = .none ∧ (0x800 : BitVec 12).getLsbD n.val ≠ s.live.expected.getLsbD n.val) ∧
    (State.reset.phase = .starting true ∧
      ∀ z ∈ Zone.all, (State.reset.zones.get z).sampleLeft = 0 ∧ (State.reset.zones.get z).loopLeft = 0) ∧
    part.startingUp = false := by decide +kernel

/-! ## Witnesses of what every step keeps

Three states that meet the invariant, each with a command that its step takes to a next state. -/

/-- A building manifest, an excursion in Z3, a discharge into Z4, a countdown in Z2, a TAKEN request and a locked courier. -/
def busyPart : State :=
  let rs : List Record :=
    [record aa9 (.conditioning 60) (some 40), record ab120 .staged (some 301),
      { record ac3007 (.out 5 6880 9) none with marks := { Marks.none with overdue := true } },
      { record ad1 .shelved (some 600) with marks := { Marks.none with exposed := true } }]
  let s := carrying (outbound .building [{ label := ab120, state := .listed }]) (withCourier (courier 3 true) (holding rs))
  let s := ((inClimate s .z3 6000 .excursion).setFire .z4 .discharged).setFire .z2 (.countdown 12000 false)
  { s with
    bank := .committed .z4 2000
    store := { s.store with bank := some .spent }
    fl := { s.fl with request := .taken .status }
    pending := [.status, .countdownExpiry .z2] }

/-- An active manifest with its courier at the hatch, and a store write in progress. -/
def handingOver : State :=
  let m := outbound .active [{ label := ab120, state := .accepted }]
  { carrying m (visiting (holding [record ab120 .staged (some 301)])) with
    store := writing.store
    fl := facilitySending.fl
    pending := [.finish] }

/-- A start-up that found retained memory kept and the store valid, with every zone's start mode ONLINE. -/
def startingPart : State :=
  let live : Tunables := { Tunables.factory with zones := PerZone.tabulate fun _ => { ZoneSettings.factory with startMode := .online } }
  { part with
    phase := .starting false
    store := { stored := live, valid := true, bank := none, writing := none }
    live := live
    secondLeft := 0
    pending := [.siteClockSecond] }

theorem busyPart_inv : busyPart.Inv := by constructor <;> decide +kernel
theorem handingOver_inv : handingOver.Inv := by constructor <;> decide +kernel
theorem startingPart_inv : startingPart.Inv := by constructor <;> decide +kernel

theorem witness_StepKeepsTableAndBounds : ∃ t, busyPart.Inv ∧ step busyPart = .next t := ⟨_, busyPart_inv, rfl⟩
theorem witness_StepKeepsMarks : ∃ t, busyPart.Inv ∧ step busyPart = .next t := ⟨_, busyPart_inv, rfl⟩
theorem witness_StepKeepsCouriersAndLinks : ∃ t, busyPart.Inv ∧ step busyPart = .next t := ⟨_, busyPart_inv, rfl⟩
theorem witness_StepKeepsStagedRecords : ∃ t, handingOver.Inv ∧ step handingOver = .next t := ⟨_, handingOver_inv, rfl⟩
theorem witness_StepKeepsHandover : ∃ t, handingOver.Inv ∧ step handingOver = .next t := ⟨_, handingOver_inv, rfl⟩
theorem witness_StepKeepsZonesAndSettings : ∃ t, handingOver.Inv ∧ step handingOver = .next t := ⟨_, handingOver_inv, rfl⟩
theorem witness_StepKeepsBankAndStartUp : ∃ t, startingPart.Inv ∧ step startingPart = .next t := ⟨_, startingPart_inv, rfl⟩

end Sys2Proof.Tests
end

section
/-! The custody law: what the table of records, the boundaries and the marks are held to in every state (R1 to R5, R20, R30),
said record by record; what an update must show to keep it; and the updates that keep it by leaving the table, the
boundaries and the hazards of the zones alone. -/

namespace Sys2Proof.Machine

open Host

/-! ### The law -/

/-- The record carries the marks of the zone where it is located (R20): EXPOSED in EXCURSION, AGENT when DISCHARGED. -/
def State.marksOk (s : State) (r : Record) : Prop :=
  ∀ z, s.location r = some z →
    (s.climate z = .excursion → r.marks.exposed = true) ∧ (s.fire z = .discharged → r.marks.agent = true)

/-- The record is whole by itself (R2) and carries its marks. -/
def State.sound (s : State) (r : Record) : Prop := r.wf = true ∧ s.marksOk r

/-- The label index (R3): the records stand in strict label order. -/
def inLabelOrder (rs : List Record) : Prop := rs.Pairwise fun a b => labelBefore a.label b.label = true

/-- The slot map (R4): no slot is bound to two records. -/
def slotsApart (rs : List Record) : Prop := rs.Pairwise fun a b => a.home = none ∨ a.home ≠ b.home

/-- The table, the boundaries and the marks together. -/
structure State.CustodyLaw (s : State) : Prop where
  size : s.ret.records.length ≤ 2048
  order : inLabelOrder s.ret.records
  slots : slotsApart s.ret.records
  bounds : s.ret.bounds.wf
  sound : ∀ r ∈ s.ret.records, s.sound r

theorem State.Inv.custodyLaw {s : State} (h : s.Inv) : s.CustodyLaw :=
  let ⟨size, whole, order, slots⟩ := h.table
  { size, order, slots, bounds := h.bounds
    sound := fun r hr => ⟨whole r hr, fun z => h.marks r hr z (Zone.mem_all z)⟩ }

theorem State.CustodyLaw.tableWf {s : State} (h : s.CustodyLaw) : s.tableWf := 
  ⟨h.size, fun r hr => (h.sound r hr).1, h.order, h.slots⟩

theorem State.CustodyLaw.marksLaw {s : State} (h : s.CustodyLaw) : s.marksLaw := fun r hr z _ => (h.sound r hr).2 z

/-- Records in label order with one label are one record. -/
theorem inLabelOrder.eq_of_label {rs : List Record} (h : inLabelOrder rs) {a b : Record} (ha : a ∈ rs) (hb : b ∈ rs)
    (hab : a.label = b.label) : a = b := by
  have hd : (rs.map Record.label).Nodup := List.pairwise_map.mpr (h.imp labelBefore_ne)
  exact List.inj_on_of_nodup_map hd ha hb hab

/-! ### Updates that leave the table and the hazards of the zones alone -/

/-- The second state has the same table and boundaries, and no zone in EXCURSION or DISCHARGED that was not so before. -/
structure State.CustodyFrame (s t : State) : Prop where
  records : t.ret.records = s.ret.records
  bounds : t.ret.bounds = s.ret.bounds
  climate : ∀ z, t.climate z = .excursion → s.climate z = .excursion
  fire : ∀ z, t.fire z = .discharged → s.fire z = .discharged

namespace State.CustodyFrame

protected theorem refl (s : State) : s.CustodyFrame s := ⟨rfl, rfl, fun _ h => h, fun _ h => h⟩

protected theorem trans {s t u : State} (h : s.CustodyFrame t) (h' : t.CustodyFrame u) : s.CustodyFrame u :=
  { records := h'.records.trans h.records
    bounds := h'.bounds.trans h.bounds
    climate := fun z hz => h.climate z (h'.climate z hz)
    fire := fun z hz => h.fire z (h'.fire z hz) }

/-- The state left by an update that touches neither retained memory nor the zones. -/
theorem of_eq {s t : State} (hr : t.ret = s.ret) (hz : t.zones = s.zones) : s.CustodyFrame t :=
  { records := by rw [hr], bounds := by rw [hr]
    climate := fun z h => by rwa [← State.climate_congr (congrArg Retained.climate hr) z]
    fire := fun z h => by rwa [← State.fire_congr hz z] }

/-- One zone's live state is replaced, and the zone is not newly DISCHARGED. -/
theorem setZone (s : State) (z : Zone) (v : ZoneState) (h : v.fire = .discharged → s.fire z = .discharged) :
    s.CustodyFrame (s.setZone z v) :=
  { records := rfl, bounds := rfl, climate := fun _ h => h
    fire := fun z' h' => by
      rw [State.setZone_fire] at h'
      split at h'
      · next e => exact e ▸ h h'
      · exact h' }

theorem setFire (s : State) (z : Zone) (f : FireState) (h : f ≠ .discharged) : s.CustodyFrame (s.setFire z f) :=
  setZone s z _ fun e => absurd e h

/-- A record sound in the first state is sound in the second. -/
theorem sound {s t : State} (h : s.CustodyFrame t) {r : Record} (hr : s.sound r) : t.sound r := by
  refine ⟨hr.1, fun z hz => ?_⟩
  have hz' : s.location r = some z := by rwa [State.location, h.bounds] at hz
  obtain ⟨hc, hf⟩ := hr.2 z hz'
  exact ⟨fun h' => hc (h.climate z h'), fun h' => hf (h.fire z h')⟩

end State.CustodyFrame

theorem State.CustodyLaw.frame {s t : State} (hs : s.CustodyLaw) (h : s.CustodyFrame t) : t.CustodyLaw :=
  { size := h.records ▸ hs.size
    order := h.records ▸ hs.order
    slots := h.records ▸ hs.slots
    bounds := h.bounds ▸ hs.bounds
    sound := fun r hr => h.sound (hs.sound r (h.records ▸ hr)) }

/-! ### Updates of the table -/

/-- A table of changed records keeps the law when it is of one size and order, binds no slot twice, and each record is
sound. -/
theorem State.CustodyLaw.setRecords {s : State} (hs : s.CustodyLaw) {rs : List Record} (size : rs.length ≤ 2048)
    (order : inLabelOrder rs) (slots : slotsApart rs) (sound : ∀ r ∈ rs, s.sound r) : (s.setRecords rs).CustodyLaw :=
  { size, order, slots, bounds := hs.bounds, sound }

/-- A change of records that keeps each record's label keeps the label order. -/
theorem inLabelOrder.map {rs : List Record} (h : inLabelOrder rs) {f : Record → Record}
    (hf : ∀ r, (f r).label = r.label) : inLabelOrder (rs.map f) :=
  List.pairwise_map.mpr (h.imp fun hab => by rwa [hf, hf])

/-- A change of records that binds no slot keeps the slots apart. -/
theorem slotsApart.map {rs : List Record} (h : slotsApart rs) {f : Record → Record}
    (hf : ∀ r, (f r).home = none ∨ (f r).home = r.home) : slotsApart (rs.map f) :=
  List.pairwise_map.mpr (h.imp fun {a b} hab => by grind [hf a, hf b])

/-- A change made to every record, which keeps its label and binds no slot, together with a change of the zones' hazards:
the law holds after both when each record comes out sound. -/
theorem State.CustodyLaw.mapRecords_of {s t : State} (hs : s.CustodyLaw) (hr : t.ret.records = s.ret.records)
    (hb : t.ret.bounds = s.ret.bounds) {f : Record → Record} (hlabel : ∀ r, (f r).label = r.label)
    (hhome : ∀ r, (f r).home = none ∨ (f r).home = r.home) (hsound : ∀ r ∈ s.ret.records, s.sound r → t.sound (f r)) :
    (t.setRecords (t.ret.records.map f)).CustodyLaw :=
  { size := by simpa [hr] using hs.size
    order := by rw [hr]; exact hs.order.map hlabel
    slots := by rw [hr]; exact hs.slots.map hhome
    bounds := hb ▸ hs.bounds
    sound := by
      rintro _ h
      obtain ⟨r, hr', rfl⟩ := List.mem_map.mp h
      exact hsound r (hr ▸ hr') (hs.sound r (hr ▸ hr')) }

/-- A change made to every record alone. -/
theorem State.CustodyLaw.mapRecords {s : State} (hs : s.CustodyLaw) {f : Record → Record}
    (hlabel : ∀ r, (f r).label = r.label) (hhome : ∀ r, (f r).home = none ∨ (f r).home = r.home)
    (hsound : ∀ r ∈ s.ret.records, s.sound r → s.sound (f r)) : (s.setRecords (s.ret.records.map f)).CustodyLaw :=
  hs.mapRecords_of rfl rfl hlabel hhome hsound

/-- A change made to the record of a label alone. -/
theorem State.CustodyLaw.modifyRecord {s : State} (hs : s.CustodyLaw) {l : Label} {f : Record → Record}
    (hlabel : ∀ r, (f r).label = r.label) (hhome : ∀ r, (f r).home = none ∨ (f r).home = r.home)
    (hsound : ∀ r ∈ s.ret.records, r.label = l → s.sound r → s.sound (f r)) :
    (s.modifyRecord l f).CustodyLaw := by
  refine hs.mapRecords (fun r => ?_) (fun r => ?_) fun r hr h => ?_
  · split <;> simp [hlabel]
  · split <;> simp [hhome]
  · split
    · next hl => exact hsound r hr hl h
    · exact h

/-- Two records of a table with no slot bound twice are not at home in one slot. -/
theorem slotsApart.home_ne {rs : List Record} (h : slotsApart rs) {a b : Record} (ha : a ∈ rs) (hb : b ∈ rs) (hne : a ≠ b)
    {slot : Fin 1536} (hs : a.home = some slot) : b.home ≠ some slot := by
  have : Std.Symm fun a b : Record => a.home = none ∨ a.home ≠ b.home := ⟨fun a b hab => by grind⟩
  grind [List.Pairwise.forall h ha hb hne]

/-- A slot that is not bound is no record's home (R4). -/
theorem State.home_ne_of_not_slotBound {s : State} {slot : Fin 1536} (h : s.slotBound slot = false) {r : Record}
    (hr : r ∈ s.ret.records) : r.home ≠ some slot := by
  have hn : s.slotHolder slot = none := by simpa [State.slotBound] using h
  simpa using List.find?_eq_none.mp hn r hr

/-- A record that a request has found is the only one of its label. -/
theorem State.CustodyLaw.eq_of_find {s : State} (hs : s.CustodyLaw) {l : Label} {r x : Record} (hf : s.find l = some r)
    (hx : x ∈ s.ret.records) (hl : x.label = l) : x = r :=
  hs.order.eq_of_label hx (findRecord_mem hf) (hl.trans (findRecord_label hf).symm)

end Sys2Proof.Machine
end

section
/-! The operations on one record (R5, R7, R18, R24 to R26, R122), an equation for each case: what the record becomes, and in
which states it stays as it is. -/

namespace Sys2Proof.Machine

open Host

/-! ### Where a record is located (R5) -/

theorem Record.isOut_iff (r : Record) :
    r.isOut = true ↔ ∃ courier consignment due, r.state = .out courier consignment due := by
  unfold Record.isOut; cases r.state <;> simp

theorem Record.isConditioning_iff (r : Record) : r.isConditioning = true ↔ ∃ hold, r.state = .conditioning hold := by
  unfold Record.isConditioning; cases r.state <;> simp

theorem Record.hold_eq_some_iff (r : Record) (hold : Nat) : r.hold = some hold ↔ r.state = .conditioning hold := by
  unfold Record.hold; cases r.state <;> simp

theorem Bounds.location_shelved (b : Bounds) {r : Record} (h : r.state = .shelved) :
    b.location r = r.home.map b.zoneOfSlot := by simp [Bounds.location, h]

theorem Bounds.location_out (b : Bounds) {r : Record} (h : r.isOut = true) : b.location r = none := by
  obtain ⟨_, _, _, h⟩ := r.isOut_iff.mp h
  simp [Bounds.location, h]

/-- Every record that is neither SHELVED nor OUT is located in ZC. -/
theorem Bounds.location_chamber (b : Bounds) {r : Record} (hs : r.state ≠ .shelved) (ho : r.isOut = false) :
    b.location r = some .zc := by
  unfold Bounds.location; unfold Record.isOut at ho; cases h : r.state <;> simp_all

/-! ### Stage and revert (R24) -/

theorem State.staged_of_shelved (s : State) {r : Record} (h : r.state = .shelved) : s.staged r =
    { r with state := .staged, marks := { r.marks with exposed := r.marks.exposed || s.inExcursion .zc } } := by
  simp [State.staged, h, Record.expose, State.inExcursion]

theorem State.staged_of_not_shelved (s : State) {r : Record} (h : r.state ≠ .shelved) : s.staged r = r := by
  unfold State.staged; split <;> simp_all

theorem State.reverted_of_staged (s : State) {r : Record} {h : Fin 1536} (hs : r.state = .staged) (hh : r.home = some h) :
    s.reverted r =
      { r with
        state := .shelved
        marks :=
          { r.marks with
            exposed := r.marks.exposed || s.inExcursion (s.zoneOfSlot h)
            agent := r.marks.agent || decide (s.fire (s.zoneOfSlot h) = .discharged) } } := by
  simp [State.reverted, hs, hh, Record.expose, Record.giveAgent, State.inExcursion]

theorem State.reverted_of_not_staged (s : State) {r : Record} (h : r.state ≠ .staged) : s.reverted r = r := by
  cases hs : r.state with
  | staged => exact absurd hs h
  | _ => simp [State.reverted, hs]

/-! ### Check out and return (R25, R26) -/

/-- The movement count rises by 1 and saturates (R25). -/
theorem countUp_eq {n : Nat} (h : n ≤ 65535) : countUp n = min 65535 (n + 1) := by
  unfold countUp; split <;> omega

theorem countUp_le (n : Nat) : countUp n ≤ 65535 := by unfold countUp; split <;> omega

theorem State.checkedOut_of_staged (s : State) (courier : Fin 16) (consignment : BitVec 16) (due : Nat) {r : Record}
    (h : r.state = .staged) : s.checkedOut courier consignment due r =
      { r with
        state := .out courier consignment due
        count := countUp r.count
        marks :=
          { r.marks with
            worn := r.marks.worn ||
              (decide (s.live.classLimits[r.cls] ≠ 0) && decide (s.live.classLimits[r.cls] ≤ countUp r.count)) } } := by
  simp [State.checkedOut, h]

theorem State.checkedOut_of_not_staged (s : State) (courier : Fin 16) (consignment : BitVec 16) (due : Nat) {r : Record}
    (h : r.state ≠ .staged) : s.checkedOut courier consignment due r = r := by
  unfold State.checkedOut; split <;> simp_all

theorem State.returned_of_out (s : State) (hold : Nat) {r : Record} (h : r.isOut = true) : s.returned hold r =
    { r with
      state := if hold = 0 then .ready else .conditioning hold
      marks := { r.marks with overdue := false, exposed := r.marks.exposed || s.inExcursion .zc } } := by
  obtain ⟨_, _, _, h⟩ := r.isOut_iff.mp h
  simp [State.returned, h, Record.expose, State.inExcursion]

theorem State.returned_of_not_out (s : State) (hold : Nat) {r : Record} (h : r.isOut = false) : s.returned hold r = r := by
  unfold State.returned; unfold Record.isOut at h; cases hs : r.state <;> simp_all

/-! ### A minute, and a new due hour (R122, R18) -/

theorem Record.minute_of_conditioning {r : Record} {hold : Nat} (h : r.state = .conditioning hold) : r.minute =
    { r with state := if hold - 1 = 0 then .ready else .conditioning (hold - 1) } := by
  have : hold ≤ 1 ↔ hold - 1 = 0 := by omega
  simp only [Record.minute, h, this]; split <;> rfl

theorem Record.minute_of_not_conditioning {r : Record} (h : r.isConditioning = false) : r.minute = r := by
  unfold Record.minute; unfold Record.isConditioning at h; cases hs : r.state <;> simp_all

theorem Record.extended_of_out {r : Record} {courier : Fin 16} {consignment : BitVec 16} {due : Nat} (new : Nat)
    (h : r.state = .out courier consignment due) : r.extended new =
      { r with state := .out courier consignment new, marks := { r.marks with overdue := false } } := by
  simp [Record.extended, h]

theorem Record.extended_of_not_out {r : Record} (new : Nat) (h : r.isOut = false) : r.extended new = r := by
  unfold Record.extended; unfold Record.isOut at h; cases hs : r.state <;> simp_all

/-! ### The gate (R7) -/

theorem FireState.isOpen_iff (f : FireState) : f.isOpen = true ↔ f = .quiet ∨ ∃ left, f = .prealarm left := by
  cases f <;> simp [FireState.isOpen]

theorem State.gateTests_of_mode (s : State) {z : Zone} (h : s.mode z ≠ .online) :
    firstFailing (s.gateTests z) = some .zoneMode := by simp [State.gateTests, h]

theorem State.gateTests_of_online (s : State) {z : Zone} (h : s.mode z = .online) :
    firstFailing (s.gateTests z) = if (s.fire z).isOpen then none else some .zoneFire := by
  cases ho : (s.fire z).isOpen <;> simp [State.gateTests, h, ho]

/-! ### The table (R3) -/

theorem getElem?_updateRecord {l : Label} {f : Record → Record} {rs : List Record} {n : Nat} {r : Record}
    (h : rs[n]? = some r) : (updateRecord l f rs)[n]? = some (if r.label = l then f r else r) := by
  simp [updateRecord, h]

/-- A new record goes between the records before it and those after it. -/
theorem insertRecord_split (r : Record) (rs : List Record) : ∃ a b : List Record, rs = a ++ b ∧
    insertRecord r rs = a ++ [r] ++ b ∧ (inLabelOrder rs → (∀ x ∈ rs, x.label ≠ r.label) →
      (∀ x ∈ a, labelBefore x.label r.label = true) ∧ ∀ x ∈ b, labelBefore r.label x.label = true) := by
  induction rs with
  | nil => exact ⟨[], [], rfl, rfl, by simp⟩
  | cons y ys ih =>
    by_cases hy : labelBefore r.label y.label = true
    · refine ⟨[], y :: ys, rfl, by simp [insertRecord, hy], fun ho _ => ⟨by simp, fun x hx => ?_⟩⟩
      rcases List.mem_cons.mp hx with rfl | hx
      · exact hy
      · exact labelBefore_trans hy (List.rel_of_pairwise_cons ho hx)
    · obtain ⟨a, b, rfl, hins, hord⟩ := ih
      refine ⟨y :: a, b, rfl, by simp [insertRecord, hy, hins], fun ho hn => ?_⟩
      obtain ⟨ha, hb⟩ := hord (List.Pairwise.of_cons ho) fun x hx => hn x (List.mem_cons_of_mem _ hx)
      refine ⟨fun x hx => ?_, hb⟩
      rcases List.mem_cons.mp hx with rfl | hx
      · exact (labelBefore_total (hn x (List.mem_cons_self ..))).resolve_right hy
      · exact ha x hx

/-! ### The operations, whole -/

/-- Settles O17, each clause by the equation of its operation. -/
theorem recordOperations : Obligations.RecordOperations := by
  unfold Obligations.RecordOperations
  refine ⟨fun s label f => ⟨rfl, updateRecord_length _ _ _, fun n r => getElem?_updateRecord⟩,
    fun b s r => ⟨b.location_shelved, fun _ _ _ h => b.location_out (by simp [Record.isOut, h]), fun h => ?_, rfl, fun _ => rfl⟩,
    fun r => ⟨r.isOut_iff, r.isConditioning_iff, r.hold_eq_some_iff⟩,
    fun s z => ⟨FireState.isOpen_iff _, s.gateTests_of_mode, fun h ho => ?_, fun h ho => ?_⟩,
    fun _ _ => rfl, insertRecord_split,
    fun s r => ⟨s.staged_of_shelved, fun _ => s.reverted_of_staged, fun _ _ _ h hc => ?_,
      fun _ _ _ hold h => s.returned_of_out hold (by simp [Record.isOut, h]), fun _ => Record.minute_of_conditioning,
      fun _ _ _ new => Record.extended_of_out new, s.staged_of_not_shelved,
      fun h => ⟨s.reverted_of_not_staged h, fun _ _ _ => s.checkedOut_of_not_staged _ _ _ h⟩,
      fun h => ⟨fun hold => s.returned_of_not_out hold h, fun due => Record.extended_of_not_out due h⟩,
      Record.minute_of_not_conditioning⟩⟩
  · rcases h with h | h | h | ⟨hold, h⟩ <;> exact b.location_chamber (by simp [h]) (by simp [Record.isOut, h])
  · rw [s.gateTests_of_online h, ho]; rfl
  · rw [s.gateTests_of_online h, ho]; rfl
  · rw [s.checkedOut_of_staged _ _ _ h, countUp_eq hc]

end Sys2Proof.Machine
end

section
/-! What each operation on a record keeps: the record stays whole (R2), keeps its label and binds no slot, and carries the
marks of the zone where it comes to be located (R20, R24 to R26). -/

namespace Sys2Proof.Machine

open Host

/-! ### Marks and location -/

theorem State.inExcursion_iff (s : State) (z : Zone) : s.inExcursion z = true ↔ s.climate z = .excursion := by
  simp [State.inExcursion]

/-- An OUT record is located in no zone and owes no mark. -/
theorem State.marksOk_of_out {s : State} {r : Record} (h : r.isOut = true) : s.marksOk r := by
  intro z hz; rw [State.location, Bounds.location_out _ h] at hz; cases hz

theorem State.marksOk_of_location {s : State} {r : Record} {z : Zone} (h : s.location r = some z)
    (he : s.climate z = .excursion → r.marks.exposed = true) (ha : s.fire z = .discharged → r.marks.agent = true) :
    s.marksOk r := by
  intro z' hz'; cases h.symm.trans hz'; exact ⟨he, ha⟩

/-- A zone that custody gating lets through is not DISCHARGED (R7). -/
theorem State.fire_ne_discharged_of_gate {s : State} {z : Zone} (h : s.gate z = none) : s.fire z ≠ .discharged := by
  intro hf; simp [State.gate_none, State.custodyOpen, hf, FireState.isOpen] at h

/-- No zone is DISCHARGED while none forbids the handover (R58). -/
theorem State.fire_ne_discharged_of_handover {s : State} (h : s.fireForbidsHandover = false) (z : Zone) :
    s.fire z ≠ .discharged := by
  intro hf
  have : s.anyCountdownOrDischarged = true := List.any_eq_true.mpr ⟨z, Zone.mem_all z, by simp [hf]⟩
  simp [State.fireForbidsHandover, this] at h

/-- Only an OUT record carries OVERDUE (R21). -/
theorem Record.overdue_of_wf {r : Record} (h : r.wf = true) (ho : r.isOut = false) : r.marks.overdue = false := by
  simp only [Record.wf, ho, Bool.and_eq_true] at h; simp_all

/-! ### Label and home slot -/

@[simp] theorem State.staged_label (s : State) (r : Record) : (s.staged r).label = r.label := by
  unfold State.staged; split <;> rfl
@[simp] theorem State.staged_home (s : State) (r : Record) : (s.staged r).home = r.home := by
  unfold State.staged; split <;> rfl
@[simp] theorem State.reverted_label (s : State) (r : Record) : (s.reverted r).label = r.label := by
  obtain ⟨_, _, state, home, _, _⟩ := r; cases state <;> cases home <;> rfl
@[simp] theorem State.reverted_home (s : State) (r : Record) : (s.reverted r).home = r.home := by
  obtain ⟨_, _, state, home, _, _⟩ := r; cases state <;> cases home <;> rfl
@[simp] theorem State.checkedOut_label (s : State) (c : Fin 16) (n : BitVec 16) (d : Nat) (r : Record) :
    (s.checkedOut c n d r).label = r.label := by unfold State.checkedOut; split <;> rfl
@[simp] theorem State.checkedOut_home (s : State) (c : Fin 16) (n : BitVec 16) (d : Nat) (r : Record) :
    (s.checkedOut c n d r).home = r.home := by unfold State.checkedOut; split <;> rfl
@[simp] theorem State.returned_label (s : State) (hold : Nat) (r : Record) : (s.returned hold r).label = r.label := by
  unfold State.returned; split <;> rfl
@[simp] theorem State.returned_home (s : State) (hold : Nat) (r : Record) : (s.returned hold r).home = r.home := by
  unfold State.returned; split <;> rfl
@[simp] theorem Record.minute_label (r : Record) : r.minute.label = r.label := by
  unfold Record.minute; repeat' split
  all_goals rfl
@[simp] theorem Record.minute_home (r : Record) : r.minute.home = r.home := by
  unfold Record.minute; repeat' split
  all_goals rfl
@[simp] theorem Record.extended_label (due : Nat) (r : Record) : (r.extended due).label = r.label := by
  unfold Record.extended; split <;> rfl
@[simp] theorem Record.extended_home (due : Nat) (r : Record) : (r.extended due).home = r.home := by
  unfold Record.extended; split <;> rfl

/-! ### Whole and marked -/

/-- A staged record reaches ZC, which is not DISCHARGED (R24). -/
theorem State.sound.staged {s : State} {r : Record} (h : s.sound r) (hf : s.fire .zc ≠ .discharged) :
    s.sound (s.staged r) := by
  by_cases hs : r.state = .shelved
  · rw [s.staged_of_shelved hs]
    refine ⟨?_, s.marksOk_of_location (z := .zc) rfl (fun he => ?_) fun hd => absurd hd hf⟩
    · have hw := h.1; simp_all [Record.wf, Record.isOut]
    · simp [(s.inExcursion_iff .zc).mpr he]
  · rwa [s.staged_of_not_shelved hs]

/-- A reverted record takes the marks of its home zone (R24). -/
theorem State.sound.reverted {s : State} {r : Record} (h : s.sound r) : s.sound (s.reverted r) := by
  by_cases hs : r.state = .staged
  · have hw := h.1
    obtain ⟨home, hh⟩ : ∃ x, r.home = some x := Option.isSome_iff_exists.mp (by simp_all [Record.wf])
    rw [s.reverted_of_staged hs hh]
    refine ⟨?_, s.marksOk_of_location (z := s.zoneOfSlot home) ?_ (fun he => ?_) fun hd => ?_⟩
    · simp_all [Record.wf, Record.isOut]
    · simp [State.location, Bounds.location, hh, State.zoneOfSlot]
    · simp [(s.inExcursion_iff _).mpr he]
    · simp [hd]
  · rwa [s.reverted_of_not_staged hs]

/-- A checked-out record leaves every zone, with its count and its due hour in their ranges (R25). -/
theorem State.sound.checkedOut {s : State} {r : Record} (h : s.sound r) (courier : Fin 16) (consignment : BitVec 16)
    {due : Nat} (hd : due ≤ 16777215) : s.sound (s.checkedOut courier consignment due r) := by
  by_cases hs : r.state = .staged
  · rw [s.checkedOut_of_staged _ _ _ hs]
    refine ⟨?_, s.marksOk_of_out rfl⟩
    have hw := h.1
    simp_all [Record.wf, Record.isOut, countUp_le]
  · rwa [s.checkedOut_of_not_staged _ _ _ hs]

/-- A returned record reaches ZC, which is not DISCHARGED (R26). -/
theorem State.sound.returned {s : State} {r : Record} (h : s.sound r) {hold : Nat} (hh : hold ≤ 720)
    (hf : s.fire .zc ≠ .discharged) : s.sound (s.returned hold r) := by
  by_cases ho : r.isOut = true
  · rw [s.returned_of_out hold ho]
    have hw := h.1
    refine ⟨?_, s.marksOk_of_location (z := .zc) ?_ (fun he => ?_) fun hd => absurd hd hf⟩
    · by_cases h0 : hold = 0 <;> simp_all [Record.wf, Record.isOut]; omega
    · by_cases h0 : hold = 0 <;> simp [State.location, Bounds.location, h0]
    · simp [(s.inExcursion_iff .zc).mpr he]
  · rwa [s.returned_of_not_out hold (by simpa using ho)]

/-- A change that leaves a record located where it was and takes off none of its marks but OVERDUE owes no mark. -/
theorem State.marksOk.of_same {s : State} {r x : Record} (h : s.marksOk r) (hl : s.location x = s.location r)
    (he : x.marks.exposed = r.marks.exposed) (ha : x.marks.agent = r.marks.agent) : s.marksOk x := by
  intro z hz; rw [he, ha]; exact h z (hl ▸ hz)

/-- A record stays in ZC as its hold falls and as it becomes READY (R122). -/
theorem State.sound.minute {s : State} {r : Record} (h : s.sound r) : s.sound r.minute := by
  by_cases hc : r.isConditioning = true
  · obtain ⟨hold, hs⟩ := r.isConditioning_iff.mp hc
    rw [Record.minute_of_conditioning hs]
    have hw := h.1
    refine ⟨?_, h.2.of_same ?_ rfl rfl⟩
    · by_cases h0 : hold - 1 = 0 <;> simp_all [Record.wf, Record.isOut]; omega
    · by_cases h0 : hold - 1 = 0 <;> simp [State.location, Bounds.location, h0, hs]
  · rwa [Record.minute_of_not_conditioning (by simpa using hc)]

theorem State.sound.extended {s : State} {r : Record} (h : s.sound r) {due : Nat} (hd : due ≤ 16777215) :
    s.sound (r.extended due) := by
  by_cases ho : r.isOut = true
  · obtain ⟨c, n, d, hs⟩ := r.isOut_iff.mp ho
    rw [Record.extended_of_out due hs]
    have hw := h.1
    exact ⟨by simp_all [Record.wf, Record.isOut], s.marksOk_of_out rfl⟩
  · rwa [Record.extended_of_not_out due (by simpa using ho)]

end Sys2Proof.Machine
end

section
/-! The tests of the custody requests (R8 to R16) as their rules list them: the refusal of each is the first of its tests that
fails. -/

namespace Sys2Proof.Machine

open Host

theorem firstFailing_append_eq_none {a b : List (Bool × Status)} :
    firstFailing (a ++ b) = none ↔ firstFailing a = none ∧ firstFailing b = none := by
  rw [firstFailing_append]; cases firstFailing a <;> simp

/-- The gate of a zone, and after it the zone's EXCURSION (R8, R12, R13). -/
def State.arrivalTests (s : State) (z : Zone) : List (Bool × Status) := s.gateTests z ++ [(s.inExcursion z, .excursion)]

/-- A zone that lets a record in is custody-open and not in EXCURSION. -/
theorem State.arrivalTests_none {s : State} {z : Zone} :
    firstFailing (s.arrivalTests z) = none ↔ s.gate z = none ∧ s.climate z ≠ .excursion := by
  rw [State.arrivalTests, firstFailing_append_eq_none, ← s.gate_eq]; simp [State.inExcursion]

/-- ENROLL's tests 4 to 6 (R8). -/
theorem State.enrollRefusal_eq (s : State) (slot : Option (Fin 1536)) :
    s.enrollRefusal slot = firstFailing ([(slot.any s.slotBound, .slotTaken)] ++ s.gateTests (slot.elim .zc s.zoneOfSlot) ++
      [(slot.isSome && s.inExcursion (slot.elim .zc s.zoneOfSlot), .excursion)]) := by
  rw [firstFailing_append, firstFailing_append, ← s.gate_eq]
  cases slot with
  | none => cases hg : s.gate .zc <;> simp [State.enrollRefusal, hg]
  | some h =>
    by_cases hb : s.slotBound h = true
    · simp [State.enrollRefusal, hb]
    · cases hg : s.gate (s.zoneOfSlot h) with
      | some x => simp [State.enrollRefusal, hb, hg]
      | none => by_cases he : s.climate (s.zoneOfSlot h) = .excursion <;> simp [State.enrollRefusal, hb, hg, State.inExcursion, he]

/-- PLACE's tests 5 to 7 (R12). -/
theorem State.placeRefusal_eq (s : State) (r : Record) (target : Fin 1536) :
    s.placeRefusal r target = firstFailing ([(decide (r.home ≠ some target) && s.slotBound target, .slotTaken)] ++
      s.gateTests .zc ++ s.arrivalTests (s.zoneOfSlot target)) := by
  rw [List.append_assoc, State.arrivalTests, ← List.append_assoc (s.gateTests .zc), firstFailing_append, firstFailing_append,
    ← s.gateMove_eq]
  by_cases hb : r.home ≠ some target ∧ s.slotBound target = true
  · simp [State.placeRefusal, hb]
  · cases hg : s.gateMove .zc (s.zoneOfSlot target) with
    | some x => simp [State.placeRefusal, hb, hg]
    | none => simp [State.placeRefusal, hb, hg, State.inExcursion]

/-- RELOCATE's tests 4 to 6 (R13). -/
theorem State.relocateRefusal_eq (s : State) (source target : Fin 1536) :
    s.relocateRefusal source target = firstFailing ([(s.slotBound target, .slotTaken)] ++
      s.gateTests (s.zoneOfSlot source) ++ s.arrivalTests (s.zoneOfSlot target)) := by
  rw [List.append_assoc, State.arrivalTests, ← List.append_assoc (s.gateTests _), firstFailing_append, firstFailing_append,
    ← s.gateMove_eq]
  by_cases hb : s.slotBound target = true
  · simp [State.relocateRefusal, hb]
  · cases hg : s.gateMove (s.zoneOfSlot source) (s.zoneOfSlot target) with
    | some x => simp [State.relocateRefusal, hb, hg]
    | none => simp [State.relocateRefusal, hb, hg, State.inExcursion]

/-- UNBIND's tests 3 and 4 (R14). -/
theorem State.unbindRefusal_eq (s : State) (r : Record) :
    s.unbindRefusal r = firstFailing
      ([(decide (r.state = .shelved ∨ r.state = .staged ∨ r.state = .unplaced), .wrongState)] ++
        if r.isOut then [] else s.gateTests .zc) := by
  rw [firstFailing_append]
  cases h : r.state <;> simp [State.unbindRefusal, Record.isOut, h, s.gate_eq]

/-- RETIRE's tests 3 and 4 (R15), of a record that is located in a zone. -/
theorem State.retireRefusal_eq (s : State) {r : Record} {z : Zone} (hl : s.location r = some z) :
    s.retireRefusal r = firstFailing ([(r.isStaged || r.isConditioning, .wrongState)] ++ s.gateTests z) := by
  rw [firstFailing_append, ← s.gate_eq]
  cases h : r.state with
  | shelved => simp [State.retireRefusal, hl, h, Record.isStaged, Record.isConditioning]
  | out => rw [State.location, Bounds.location_out _ (by simp [Record.isOut, h])] at hl; cases hl
  | _ =>
    rw [State.location, Bounds.location_chamber _ (by simp [h]) (by simp [Record.isOut, h])] at hl
    cases hl
    simp [State.retireRefusal, h, Record.isStaged, Record.isConditioning]

/-- A record that is located in no zone is not retired. -/
theorem State.retireRefusal_of_nowhere (s : State) {r : Record} (hl : s.location r = none) :
    s.retireRefusal r = some .wrongState := by
  unfold State.location Bounds.location at hl
  cases h : r.state <;> simp_all [State.retireRefusal, State.location, Bounds.location]

/-- CLEAR_MARK's tests 3 and 4 (R16). -/
theorem State.clearMarkRefusal_eq (s : State) (r : Record) (mark : Nat) :
    s.clearMarkRefusal r mark = firstFailing
      [(decide (mark = 0) && (s.location r).any s.inExcursion, .excursion),
        (decide (mark = 1) && (s.location r).any fun z => decide (s.fire z ≠ .quiet), .zoneFire)] := by
  cases hl : s.location r with
  | none => simp [State.clearMarkRefusal, hl]
  | some z => simp [State.clearMarkRefusal, hl, State.inExcursion]

end Sys2Proof.Machine
end

section
/-! The commands that leave the custody table, the boundaries and the hazards of the zones alone: the requests of the courier
table, the zones, the loops, the lines and the settings, what the links do, and the expiries that touch no record. -/

namespace Sys2Proof.Machine

open Host

namespace State.CustodyFrame

/-! ### Updates that blocks share -/

theorem raise {s t : State} (h : s.CustodyFrame t) (f : EventFlag) : s.CustodyFrame (t.raise f) := h.trans (of_eq rfl rfl)

theorem raiseIf {s t : State} (h : s.CustodyFrame t) (c : Bool) (f : EventFlag) : s.CustodyFrame (t.raiseIf c f) :=
  h.trans (of_eq (by simp) (by simp))

theorem setLink (s : State) (k : LinkId) (l : Link) : s.CustodyFrame (s.setLink k l) := of_eq (by simp) (by simp)

theorem discardFrame (s : State) (k : LinkId) : s.CustodyFrame (s.discardFrame k) := of_eq (by simp) (by simp)

theorem answered (s : State) (k : LinkId) (code : Byte) (x : Status) (results : List Byte) :
    s.CustodyFrame (s.answered k code x results) := of_eq (by simp) (by simp)

theorem setMode (s : State) (z : Zone) (m : ZoneMode) : s.CustodyFrame (s.setMode z m) := setZone s z _ id

theorem setLoop (s : State) (z : Zone) (l : Loop) : s.CustodyFrame (s.setLoop z l) := setZone s z _ id

/-- A courier entry is written, and nothing else of retained memory. -/
theorem setCourier (s : State) (e : Fin 16) (c : Option Courier) : s.CustodyFrame (s.setCourier e c) :=
  ⟨rfl, rfl, fun _ h => h, fun _ h => h⟩

/-- A dose is reset, and its zone NOMINAL (R107). -/
theorem resetAccount (s : State) (z : Zone) (dose : Nat) : s.CustodyFrame (s.setAccount z { dose := dose, state := .nominal }) :=
  { records := rfl, bounds := rfl, fire := fun _ h => h
    climate := fun z' h => by rw [State.setAccount_climate] at h; split at h <;> simp_all }

/-! ### The links -/

theorem frameCompletes (s : State) (k : LinkId) (code : Byte) (ps : List Byte) :
    s.CustodyFrame (s.frameCompletes k code ps) := by
  unfold State.frameCompletes State.frameArrives State.linkAnswers
  repeat' split
  all_goals exact of_eq (by simp) (by simp)

theorem checkFrame (s : State) (k : LinkId) (length : Nat) (taken : List Byte) :
    s.CustodyFrame (s.checkFrame k length taken) := by
  unfold State.checkFrame
  repeat' split
  · exact discardFrame s k
  · exact discardFrame s k
  · exact discardFrame s k
  · exact (setLink s k _).trans (frameCompletes _ k _ _)

theorem takeCharacter (s : State) (k : LinkId) (c : Byte) : s.CustodyFrame (s.takeCharacter k c) := by
  unfold State.takeCharacter
  repeat' split
  · exact setLink s k _
  · exact .refl s
  · exact discardFrame s k
  · exact setLink s k _
  · exact checkFrame s k _ _
  · exact setLink s k _

theorem character (s : State) (k : LinkId) (c : Byte) (ok : Bool) : s.CustodyFrame (s.character k c ok) := by
  unfold State.character
  repeat' split
  · exact .refl s
  · exact takeCharacter s k c
  · exact discardFrame s k
  · exact .refl s

theorem responseEnds (s : State) (k : LinkId) : s.CustodyFrame (s.responseEnds k) := by
  unfold State.responseEnds
  split
  · exact setLink s k _
  · exact .refl s

/-! ### The fire sequence, the loops and the sensors -/

theorem alarmSample (s : State) (z : Zone) : s.CustodyFrame (s.alarmSample z) := by
  unfold State.alarmSample
  split
  · exact (setZone s z _ (by nofun)).raise _
  · exact (setFire s z _ (by nofun)).raise _
  · exact .refl s

theorem freeze (s : State) (z : Zone) : s.CustodyFrame (s.freeze z) := setMode s z _

/-- A loop's sample brings a zone to PREALARM or ALARMED at most (R142). -/
theorem sampleLoop (s : State) (z : Zone) (count : BitVec 12) : s.CustodyFrame (s.sampleLoop z count) := by
  unfold State.sampleLoop
  extract_lets v c e s1 s2
  have h1 : s.CustodyFrame s1 := (((setZone s z _ (by exact id)).raiseIf _ _).raiseIf _ _).raiseIf _ _
  have h2 : s.CustodyFrame s2 := by
    unfold s2; split
    · exact h1.trans (freeze s1 z)
    · exact h1
  split
  · exact h2.trans (alarmSample s2 z)
  · exact h2

theorem sensorFault (s : State) (z : Zone) : s.CustodyFrame (s.sensorFault z) := (setZone s z _ (by exact id)).raiseIf _ _

theorem abortChanged (s : State) (asserted : Bool) : s.CustodyFrame (s.abortChanged asserted) :=
  { records := rfl, bounds := rfl, climate := fun _ h => h
    fire := fun z h => by
      simp only [State.abortChanged, State.fire, PerZone.get_tabulate] at h ⊢
      revert h; cases (s.zones.get z).fire <;> simp [FireState.afterAbort] }

theorem windowExpiry (s : State) (z : Zone) : s.CustodyFrame (s.windowExpiry z) := by
  unfold State.windowExpiry
  split
  · exact setFire s z _ nofun
  · exact .refl s

theorem writeBank (s : State) (b : BankRecord) : s.CustodyFrame (s.writeBank b) := by
  unfold State.writeBank; split <;> exact ⟨rfl, rfl, fun _ h => h, fun _ h => h⟩

theorem pulseEnd (s : State) : s.CustodyFrame s.pulseEnd := by
  unfold State.pulseEnd; split <;> exact of_eq rfl rfl

/-! ### The hatch, the clock, the store and the power -/

theorem releaseExpiry (s : State) : s.CustodyFrame s.releaseExpiry := by
  unfold State.releaseExpiry; split <;> exact of_eq rfl rfl

theorem openLimitReached (s : State) : s.CustodyFrame s.openLimitReached := by
  unfold State.openLimitReached; repeat' split
  all_goals exact of_eq rfl rfl

theorem followDoor (s t : State) : t.CustodyFrame (followDoor s t) := by
  unfold Machine.followDoor; repeat' split
  all_goals exact of_eq rfl rfl

theorem clockSecond (s : State) : s.CustodyFrame s.clockSecond := by
  unfold State.clockSecond; repeat' split
  all_goals exact ⟨rfl, rfl, fun _ h => h, fun _ h => h⟩

theorem storeComplete (s : State) : s.CustodyFrame s.storeComplete := by
  unfold State.storeComplete; split <;> exact ⟨rfl, rfl, fun _ h => h, fun _ h => h⟩

theorem stop (s : State) (x : Phase) : s.CustodyFrame (s.stop x) := by
  unfold State.stop State.cutStoreWrite; split <;> exact of_eq rfl rfl

theorem enterService (s : State) (lost : Bool) (pins : BitVec 12) : s.CustodyFrame (s.enterService lost pins) :=
  (((of_eq (by rfl) (by rfl)).raise _).raiseIf _ _).raiseIf _ _

theorem idle (s : State) : s.CustodyFrame s.idle := by
  unfold State.idle
  split
  · refine ⟨rfl, rfl, fun _ h => h, fun z h => ?_⟩
    simp only [State.fire, PerZone.get_tabulate, ZoneState.pass] at h ⊢
    revert h; cases (s.zones.get z).fire <;> simp [FireState.pass]
    split <;> simp
  · exact of_eq rfl rfl

end State.CustodyFrame

end Sys2Proof.Machine
end

section
/-! The requests whose owner blocks leave the custody table, the boundaries and the hazards of the zones alone. -/

namespace Sys2Proof.Machine

open Host

/-- A request of the hatch that needs a courier on the link keeps what its refusals keep and what it does for the courier
keeps (R53). -/
theorem whenIdentified_keeps {P : State → Prop} {s : State} {f : Fin 16 → Answer} (hs : P s) (hf : ∀ e, P (f e).state) :
    P (whenIdentified s f).state := by
  unfold whenIdentified
  split
  · exact hs
  · exact hs
  · exact hf _

namespace State.CustodyFrame

/-! ### Manifests and the hatch -/

theorem ownOpenManifest (direction courier : Byte) (consignment due : BitVec 16) (s : State) :
    s.CustodyFrame (ownOpenManifest direction courier consignment due s).state := by
  unfold Machine.ownOpenManifest; repeat' split
  all_goals exact of_eq rfl rfl

theorem ownOfferManifest (s : State) : s.CustodyFrame (ownOfferManifest s).state := by
  unfold Machine.ownOfferManifest; repeat' split
  all_goals exact of_eq rfl rfl

theorem ownReadManifest (s : State) : s.CustodyFrame (ownReadManifest s).state := by
  unfold Machine.ownReadManifest; split <;> exact .refl s

theorem ownReleaseManifest (s : State) : s.CustodyFrame (ownReleaseManifest s).state := by
  unfold Machine.ownReleaseManifest; repeat' split
  all_goals exact of_eq rfl rfl

theorem endLapse (s : State) : s.CustodyFrame s.endLapse := by rw [s.endLapse_eq]; exact of_eq rfl rfl

/-- An identification writes its courier's entry at most (R55, R56). -/
theorem ownIdentify (badge : BitVec 24) (code : AccessCode) (s : State) :
    s.CustodyFrame (ownIdentify badge code s).state := by
  unfold Machine.ownIdentify
  refine (endLapse s).trans ?_
  generalize s.endLapse = t
  dsimp only
  repeat' split
  · exact .refl t
  · exact .refl t
  · exact .refl t
  · exact .refl t
  · exact .refl t
  · exact (setCourier t _ _).raiseIf _ _
  · exact setCourier t _ _
  · exact (setCourier t _ _).trans (of_eq rfl rfl)

theorem ownDeclare (consignment : BitVec 16) (caseT caseH : Option (BitVec 16)) (s : State) :
    s.CustodyFrame (ownDeclare consignment caseT caseH s).state := by
  refine whenIdentified_keeps (.refl s) fun e => ?_
  repeat' split
  all_goals exact of_eq rfl rfl

theorem ownChoose (label : Label) (x : ItemState) (s : State) : s.CustodyFrame (ownChoose label x s).state := by
  refine whenIdentified_keeps (.refl s) fun e => ?_
  repeat' split
  all_goals exact of_eq rfl rfl

theorem ownView (s : State) : s.CustodyFrame (ownView s).state := by
  refine whenIdentified_keeps (.refl s) fun e => ?_
  split <;> exact of_eq rfl rfl

/-! ### Couriers -/

theorem ownEnrolCourier (entry : Byte) (badge : BitVec 24) (code : AccessCode) (s : State) :
    s.CustodyFrame (ownEnrolCourier entry badge code s).state := by
  unfold Machine.ownEnrolCourier; repeat' split
  · exact .refl s
  · exact .refl s
  · exact .refl s
  · exact setCourier s _ _
  · exact .refl s

theorem ownRevokeCourier (entry : Byte) (s : State) : s.CustodyFrame (ownRevokeCourier entry s).state := by
  unfold Machine.ownRevokeCourier; repeat' split
  · exact .refl s
  · exact .refl s
  · exact setCourier s _ _

theorem ownUnlockCourier (entry : Byte) (s : State) : s.CustodyFrame (ownUnlockCourier entry s).state := by
  unfold Machine.ownUnlockCourier; repeat' split
  · exact .refl s
  · exact .refl s
  · exact setCourier s _ _

theorem ownReadCourier (entry : Byte) (s : State) : s.CustodyFrame (ownReadCourier entry s).state := by
  unfold Machine.ownReadCourier; split <;> exact .refl s

/-! ### Zones and climate -/

theorem changeMode (s : State) (z : Zone) (m : ZoneMode) : s.CustodyFrame (s.changeMode z m) := by
  unfold State.changeMode
  split
  · exact .refl s
  · exact setZone s z _ (by exact id)

theorem ownSetZoneMode (zone mode : Byte) (s : State) : s.CustodyFrame (ownSetZoneMode zone mode s).state := by
  unfold Machine.ownSetZoneMode; repeat' split
  · exact .refl s
  · exact changeMode s _ _
  · exact .refl s

theorem ownReadZone (zone : Byte) (s : State) : s.CustodyFrame (ownReadZone zone s).state := by
  unfold Machine.ownReadZone; split <;> exact .refl s

theorem ownSetStartMode (zone mode : Byte) (s : State) : s.CustodyFrame (ownSetStartMode zone mode s).state := by
  unfold Machine.ownSetStartMode; repeat' split
  all_goals exact of_eq rfl rfl

theorem ownResetDose (zone : Byte) (s : State) : s.CustodyFrame (ownResetDose zone s).state := by
  unfold Machine.ownResetDose; repeat' split
  · exact .refl s
  · exact .refl s
  · exact resetAccount s _ 0

/-- New settings of a zone, and its live state replaced without a change of its fire state. -/
theorem setSettings_setZone (s : State) (z : Zone) (c : ZoneSettings) (v : ZoneState)
    (h : v.fire = .discharged → s.fire z = .discharged) : s.CustodyFrame ((s.setSettings z c).setZone z v) :=
  (of_eq rfl rfl : s.CustodyFrame (s.setSettings z c)).trans (setZone _ z v h)

theorem ownSetClimate (zone : Byte) (c : ClimateSettings) (s : State) : s.CustodyFrame (ownSetClimate zone c s).state := by
  unfold Machine.ownSetClimate; repeat' split
  · exact .refl s
  · exact .refl s
  · exact .refl s
  · exact .refl s
  · exact setSettings_setZone s _ _ _ (by exact id)

theorem ownSetTrim (zone trimT trimH : Byte) (s : State) : s.CustodyFrame (ownSetTrim zone trimT trimH s).state := by
  unfold Machine.ownSetTrim; repeat' split
  · exact .refl s
  · exact .refl s
  · exact .refl s
  · exact setSettings_setZone s _ _ _ (by exact id)

theorem ownSetConditioning (kT kH base : Byte) (s : State) : s.CustodyFrame (ownSetConditioning kT kH base s).state := by
  unfold Machine.ownSetConditioning; split <;> exact of_eq rfl rfl

/-! ### Loops and the fire sequence -/

theorem ownSetLoop (loop : Byte) (openMax normalMax alarmMax : BitVec 16) (policy capture : Byte) (s : State) :
    s.CustodyFrame (ownSetLoop loop openMax normalMax alarmMax policy capture s).state := by
  unfold Machine.ownSetLoop; repeat' split
  · exact .refl s
  · exact .refl s
  · exact .refl s
  · exact .refl s
  · exact setSettings_setZone s _ _ _ (by exact id)
  · exact .refl s

theorem ownLoopReturn (loop : Byte) (s : State) : s.CustodyFrame (ownLoopReturn loop s).state := by
  unfold Machine.ownLoopReturn; dsimp only; repeat' split
  · exact .refl s
  · exact .refl s
  · exact (setLoop s _ _).raiseIf _ _

theorem ownClearLoopFlags (loop : Byte) (o h a : Bool) (s : State) :
    s.CustodyFrame (ownClearLoopFlags loop o h a s).state := by
  unfold Machine.ownClearLoopFlags; split
  · exact .refl s
  · exact setLoop s _ _

theorem ownAbortRelease (zone : Byte) (s : State) : s.CustodyFrame (ownAbortRelease zone s).state := by
  unfold Machine.ownAbortRelease; repeat' split
  · exact .refl s
  · exact .refl s
  · exact setFire s _ _ nofun

theorem ownResetAlarm (zone : Byte) (s : State) : s.CustodyFrame (ownResetAlarm zone s).state := by
  unfold Machine.ownResetAlarm; repeat' split
  · exact .refl s
  · exact .refl s
  · exact setFire s _ _ nofun

theorem ownBankReloaded (s : State) : s.CustodyFrame (ownBankReloaded s).state := by
  unfold Machine.ownBankReloaded; repeat' split
  · exact .refl s
  · exact .refl s
  · exact (of_eq (by rfl) (by rfl)).trans (writeBank { s with bank := .ready } _)

theorem ownSetRelease (scope b0 b1 b2 b3 : Byte) (s : State) : s.CustodyFrame (ownSetRelease scope b0 b1 b2 b3 s).state := by
  unfold Machine.ownSetRelease; repeat' split
  all_goals exact of_eq rfl rfl

/-! ### Events, lines and settings -/

theorem ownSetEventEnable (enables : BitVec 24) (s : State) : s.CustodyFrame (ownSetEventEnable enables s).state := by
  unfold Machine.ownSetEventEnable; split <;> exact of_eq rfl rfl

theorem ownSetLine (line : Byte) (level : Bool) (s : State) : s.CustodyFrame (ownSetLine line level s).state := by
  unfold Machine.ownSetLine; repeat' split
  all_goals exact of_eq rfl rfl

theorem ownSetExpect (levels : BitVec 16) (s : State) : s.CustodyFrame (ownSetExpect levels s).state := by
  unfold Machine.ownSetExpect; split
  · exact .refl s
  · exact (of_eq (by rfl) (by rfl)).raiseIf _ _

theorem setInputFunction (s : State) (n : Fin 12) (f : InputFunction) : s.CustodyFrame (s.setInputFunction n f) :=
  ((of_eq (by rfl) (by rfl)).trans (followDoor s { s with live := { s.live with inputs := s.live.inputs.set n f } })).raiseIf _ _

theorem ownSetLineFunction (direction line function zone : Byte) (s : State) :
    s.CustodyFrame (ownSetLineFunction direction line function zone s).state := by
  unfold Machine.ownSetLineFunction
  extract_lets change
  have changes (f : State → State) (hf : change = some f) : s.CustodyFrame (f s) := by
    unfold change at hf
    split at hf
    · obtain ⟨x, -, rfl⟩ := Option.map_eq_some_iff.mp hf; exact setInputFunction s _ x
    · obtain ⟨x, -, rfl⟩ := Option.map_eq_some_iff.mp hf; exact of_eq rfl rfl
    · cases hf
  clear_value change
  split
  · exact .refl s
  · next f =>
    repeat' split
    · exact .refl s
    · exact .refl s
    · exact changes f rfl

theorem ownSetTimers (h r o : BitVec 16) (s : State) : s.CustodyFrame (ownSetTimers h r o s).state := by
  unfold Machine.ownSetTimers; split <;> exact of_eq rfl rfl

theorem ownSetClassLimit (cls : Byte) (limit : BitVec 16) (s : State) : s.CustodyFrame (ownSetClassLimit cls limit s).state := by
  unfold Machine.ownSetClassLimit; repeat' split
  all_goals exact of_eq rfl rfl

theorem ownStoreSettings (s : State) : s.CustodyFrame (ownStoreSettings s).state := by
  unfold Machine.ownStoreSettings; split <;> exact of_eq rfl rfl

theorem ownSetLinkRate (link divisor : Byte) (s : State) : s.CustodyFrame (ownSetLinkRate link divisor s).state := by
  unfold Machine.ownSetLinkRate; repeat' split
  all_goals exact of_eq (by simp) (by simp)

/-! ### Lookups -/

theorem ownLookup (label : Label) (s : State) : s.CustodyFrame (ownLookup label s).state := by
  unfold Machine.ownLookup withRecord; repeat' split
  all_goals exact .refl s

theorem ownSlotQuery (slot : BitVec 16) (s : State) : s.CustodyFrame (ownSlotQuery slot s).state := by
  unfold Machine.ownSlotQuery; repeat' split
  all_goals exact .refl s

theorem ownNextLabel (label : Label) (s : State) : s.CustodyFrame (ownNextLabel label s).state := by
  unfold Machine.ownNextLabel; repeat' split
  all_goals exact .refl s

end State.CustodyFrame

end Sys2Proof.Machine
end

section
/-! What keeps the custody law by changing records: the requests of the custody table (R8 to R18), the handovers (R24 to
R26, R71), the boundaries (R34), the climate account and the fire sequence (R104, R158), the ticks and start-up. -/

namespace Sys2Proof.Machine

open Host

/-! ### A record shelved at a slot (R8, R12, R13) -/

/-- A record of no duplicate label goes to a free slot, or to its own. -/
theorem slotsApart.shelveAt {rs : List Record} (h : slotsApart rs) (ho : inLabelOrder rs) {l : Label} {slot : Fin 1536}
    (hfree : ∀ x ∈ rs, x.label ≠ l → x.home ≠ some slot) : slotsApart (updateRecord l (fun r => r.shelveAt slot) rs) := by
  refine List.pairwise_map.mpr ((h.and ho).imp_of_mem fun {a b} ha hb hab => ?_)
  have hne := labelBefore_ne hab.2
  have hfa := hfree a ha
  have hfb := hfree b hb
  split <;> split <;> grind [Record.shelveAt]

/-- A whole record that is not OUT is sound at a slot whose zone is custody-open and not in EXCURSION. -/
theorem State.sound.shelveAt {s : State} {r : Record} (h : s.sound r) (ho : r.isOut = false) {slot : Fin 1536}
    (hg : s.gate (s.zoneOfSlot slot) = none) (hc : s.climate (s.zoneOfSlot slot) ≠ .excursion) :
    s.sound (r.shelveAt slot) := by
  refine ⟨?_, s.marksOk_of_location (z := s.zoneOfSlot slot) rfl (fun he => absurd he hc) fun hd =>
    absurd hd (s.fire_ne_discharged_of_gate hg)⟩
  have hw := h.1
  have hd := r.overdue_of_wf hw ho
  simp_all [Record.wf, Record.shelveAt]

theorem State.CustodyLaw.shelveAt {s : State} (hs : s.CustodyLaw) {l : Label} {r : Record} (hf : s.find l = some r)
    (ho : r.isOut = false) {slot : Fin 1536} (hfree : r.home = some slot ∨ s.slotBound slot = false)
    (hg : s.gate (s.zoneOfSlot slot) = none) (hc : s.climate (s.zoneOfSlot slot) ≠ .excursion) :
    (s.modifyRecord l fun r => r.shelveAt slot).CustodyLaw := by
  refine hs.setRecords ((updateRecord_length ..).trans_le hs.size) (hs.order.map fun x => ?_)
    (hs.slots.shelveAt hs.order fun x hx hl => ?_) fun x hx => ?_
  · split <;> rfl
  · rcases hfree with hr | hb
    · exact hs.slots.home_ne (findRecord_mem hf) hx (fun e => hl (e ▸ findRecord_label hf)) hr
    · exact s.home_ne_of_not_slotBound hb hx
  · obtain ⟨y, hy, rfl⟩ := mem_updateRecord.mp hx
    split
    · next hl =>
      obtain rfl := hs.eq_of_find hf hy hl
      exact (hs.sound y hy).shelveAt ho hg hc
    · exact hs.sound y hy

/-! ### Requests of the custody table (R8 to R18) -/

/-- A request on a record keeps what its refusals keep and what it does to the record that it finds keeps. -/
theorem withRecord_keeps {P : State → Prop} {label : Label} {s : State} {f : Record → Answer} (hs : P s)
    (hf : ∀ r, s.find label = some r → P (f r).state) : P (withRecord label s f).state := by
  unfold withRecord
  repeat' split
  · exact hs
  · exact hs
  · next r hr => exact hf r hr

/-- The record that ENROLL makes is sound when its tests pass (R8). -/
theorem State.newRecord_sound {s : State} {label : Label} (hl : labelOk label = true) (cls : Fin 8)
    {slot : Option (Fin 1536)} (h : s.enrollRefusal slot = none) : s.sound (s.newRecord label cls slot) := by
  have hw : (s.newRecord label cls slot).wf = true := by
    cases slot <;> simp [State.newRecord, Record.wf, Marks.none, hl]
  rw [s.enrollRefusal_eq, firstFailing_append_eq_none, firstFailing_append_eq_none, ← s.gate_eq] at h
  obtain ⟨⟨-, hg⟩, hc⟩ := h
  cases slot with
  | none =>
    refine ⟨hw, s.marksOk_of_location (z := .zc) rfl (fun he => ?_) fun hd => absurd hd (s.fire_ne_discharged_of_gate hg)⟩
    simp [State.newRecord, he]
  | some slot =>
    refine ⟨hw, s.marksOk_of_location (z := s.zoneOfSlot slot) rfl (fun he => ?_) fun hd =>
      absurd hd (s.fire_ne_discharged_of_gate hg)⟩
    simp [State.inExcursion, he] at hc

/-- The slot that ENROLL gives is no record's home (R8). -/
theorem State.newRecord_home {s : State} {label : Label} {cls : Fin 8} {slot : Option (Fin 1536)}
    (h : s.enrollRefusal slot = none) {x : Record} (hx : x ∈ s.ret.records) :
    (s.newRecord label cls slot).home = none ∨ x.home ≠ (s.newRecord label cls slot).home := by
  rw [s.enrollRefusal_eq, firstFailing_append_eq_none, firstFailing_append_eq_none] at h
  cases slot with
  | none => exact .inl rfl
  | some slot => exact .inr (s.home_ne_of_not_slotBound (by simpa using h.1.1) hx)

/-- A new record at home in no bound slot keeps the slots apart. -/
theorem slotsApart.insertRecord {r : Record} {rs : List Record} (h : slotsApart rs)
    (hr : ∀ x ∈ rs, r.home = none ∨ x.home ≠ r.home) : slotsApart (insertRecord r rs) := by
  obtain ⟨a, b, rfl, hins, -⟩ := insertRecord_split r rs
  obtain ⟨ha, hb, hab⟩ := List.pairwise_append.mp h
  rw [hins, List.append_assoc]
  refine List.pairwise_append.mpr ⟨ha, List.pairwise_cons.mpr ⟨fun x hx => ?_, hb⟩, fun x hx y hy => ?_⟩
  · grind [hr x (List.mem_append_right a hx)]
  · rcases List.mem_cons.mp hy with rfl | hy
    · grind [hr x (List.mem_append_left b hx)]
    · exact hab x hx y hy

/-- ENROLL adds a whole record with a label and a slot of its own (R8). -/
theorem State.CustodyLaw.ownEnroll {s : State} (hs : s.CustodyLaw) (label : Label) (cls : Byte) (slot : BitVec 16) :
    (ownEnroll label cls slot s).state.CustodyLaw := by
  unfold Machine.ownEnroll
  repeat' split
  · exact hs
  · exact hs
  · exact hs
  · exact hs
  · next hl hfind hsize _ href =>
    have hnew : ∀ x ∈ s.ret.records, x.label ≠ label := by
      simpa [State.find, findRecord] using hfind
    have hlabel : (s.newRecord label ‹_› ‹_›).label = label := by unfold State.newRecord; split <;> rfl
    refine hs.setRecords ?_ (insertRecord_sorted hs.order (by rwa [hlabel]))
      (hs.slots.insertRecord fun x hx => s.newRecord_home href hx) fun x hx => ?_
    · rw [length_insertRecord]; simp only [Config.tableSize] at hsize; omega
    · rcases mem_insertRecord.mp hx with rfl | hx
      · exact s.newRecord_sound (by simpa using hl) _ href
      · exact hs.sound x hx
  · exact hs

theorem State.CustodyLaw.ownPlace {s : State} (hs : s.CustodyLaw) (label : Label) (slot : BitVec 16) :
    (ownPlace label slot s).state.CustodyLaw := by
  unfold Machine.ownPlace
  split
  · exact hs
  · refine withRecord_keeps hs fun r hr => ?_
    repeat' split
    · exact hs
    · exact hs
    · next hstate _ target _ _ href =>
      rw [s.placeRefusal_eq, firstFailing_append_eq_none, firstFailing_append_eq_none, State.arrivalTests_none] at href
      obtain ⟨⟨hfree, -⟩, hg, hc⟩ := href
      exact hs.shelveAt hr (by rcases hstate with h | h <;> simp [Record.isOut, h])
        (by simpa [or_iff_not_imp_left] using hfree) hg hc
    · exact hs

theorem State.CustodyLaw.ownRelocate {s : State} (hs : s.CustodyLaw) (label : Label) (slot : BitVec 16) :
    (ownRelocate label slot s).state.CustodyLaw := by
  unfold Machine.ownRelocate
  split
  · exact hs
  · refine withRecord_keeps hs fun r hr => ?_
    repeat' split
    · exact hs
    · next hstate _ _ href =>
      rw [s.relocateRefusal_eq, firstFailing_append_eq_none, firstFailing_append_eq_none, State.arrivalTests_none] at href
      obtain ⟨⟨hfree, -⟩, hg, hc⟩ := href
      exact hs.shelveAt hr (by simp [Record.isOut, hstate]) (.inr (by simpa using hfree)) hg hc
    · exact hs

/-- A record that UNBIND takes from its slot is sound without one (R14). -/
theorem State.sound.unbound {s : State} {r : Record} (h : s.sound r) (hu : s.unbindRefusal r = none) :
    s.sound { r with home := none } := by
  obtain ⟨hw, hm⟩ := h
  unfold State.unbindRefusal at hu
  cases hs : r.state <;> simp [hs] at hu
  all_goals exact ⟨by simp_all [Record.wf, Record.isOut], hm.of_same (by simp [State.location, Bounds.location, hs]) rfl rfl⟩

theorem State.CustodyLaw.ownUnbind {s : State} (hs : s.CustodyLaw) (label : Label) :
    (ownUnbind label s).state.CustodyLaw := by
  refine withRecord_keeps hs fun r hr => ?_
  split
  · exact hs
  · next hu =>
    refine hs.modifyRecord (fun _ => rfl) (fun _ => .inl rfl) fun x hx hl h => ?_
    obtain rfl := hs.eq_of_find hr hx hl
    exact h.unbound hu

/-- RETIRE takes one record out of the table (R15). -/
theorem State.CustodyLaw.ownRetire {s : State} (hs : s.CustodyLaw) (label : Label) :
    (ownRetire label s).state.CustodyLaw := by
  refine withRecord_keeps hs fun r hr => ?_
  split
  · exact hs
  · exact hs.setRecords ((List.length_filter_le ..).trans hs.size) (hs.order.filter _) (hs.slots.filter _) fun x hx =>
      hs.sound x (mem_removeRecord.mp hx).1

theorem Marks.without_exposed (m : Marks) {n : Nat} (h : n ≠ 0) : (m.without n).exposed = m.exposed := by
  unfold Marks.without; split <;> simp_all

theorem Marks.without_agent (m : Marks) {n : Nat} (h : n ≠ 1) : (m.without n).agent = m.agent := by
  unfold Marks.without; split <;> simp_all

theorem Marks.without_overdue {m : Marks} {n : Nat} (h : (m.without n).overdue = true) : m.overdue = true := by
  unfold Marks.without at h; split at h <;> simp_all

/-- A mark that CLEAR_MARK's tests let go is not one that the record owes (R16, R20). -/
theorem State.sound.without {s : State} {r : Record} (h : s.sound r) {mark : Nat}
    (hc : s.clearMarkRefusal r mark = none) : s.sound { r with marks := r.marks.without mark } := by
  obtain ⟨hw, hm⟩ := h
  refine ⟨?_, fun z hz => ?_⟩
  · have ho := r.marks.without_overdue (n := mark)
    cases hover : (r.marks.without mark).overdue <;> simp_all [Record.wf, Record.isOut]
  · have hz : s.location r = some z := hz
    obtain ⟨he, ha⟩ := hm z hz
    simp only [State.clearMarkRefusal_eq, hz, Option.any_some, State.inExcursion] at hc
    refine ⟨fun hx => ?_, fun hx => ?_⟩
    · have h0 : mark ≠ 0 := by rintro rfl; simp [hx] at hc
      exact (r.marks.without_exposed h0).trans (he hx)
    · have h1 : mark ≠ 1 := by rintro rfl; simp [hx] at hc
      exact (r.marks.without_agent h1).trans (ha hx)

theorem State.CustodyLaw.ownClearMark {s : State} (hs : s.CustodyLaw) (label : Label) (mark : Byte) :
    (ownClearMark label mark s).state.CustodyLaw := by
  unfold Machine.ownClearMark
  split
  · exact hs
  · refine withRecord_keeps hs fun r hr => ?_
    split
    · exact hs
    · next hc =>
      refine hs.modifyRecord (fun _ => rfl) (fun _ => .inr rfl) fun x hx hl h => ?_
      obtain rfl := hs.eq_of_find hr hx hl
      exact h.without hc

/-- SET_CLASS touches neither mark nor place (R17). -/
theorem State.CustodyLaw.ownSetClass {s : State} (hs : s.CustodyLaw) (label : Label) (cls : Byte) :
    (ownSetClass label cls s).state.CustodyLaw := by
  unfold Machine.ownSetClass
  split
  · exact hs
  · exact withRecord_keeps hs fun r hr => hs.modifyRecord (fun _ => rfl) (fun _ => .inr rfl) fun x _ _ h => h

/-- A due hour set less than a year ahead of the clock is in its range (R18, R25). -/
theorem State.due_le {s : State} (h : s.ret.clock ≤ 4294967295) {hours : Nat} (hh : hours ≤ 8760) :
    s.clockHour + hours ≤ 16777215 := by unfold State.clockHour; omega

theorem State.CustodyLaw.ownExtendDue {s : State} (hs : s.CustodyLaw) (hclock : s.ret.clock ≤ 4294967295) (label : Label)
    (hours : BitVec 16) : (ownExtendDue label hours s).state.CustodyLaw := by
  unfold Machine.ownExtendDue
  split
  · exact hs
  · next hh =>
    refine withRecord_keeps hs fun r hr => ?_
    repeat' split
    · exact hs
    · exact hs
    · exact hs.modifyRecord (fun _ => by simp) (fun _ => .inr (by simp)) fun x _ _ h => h.extended (s.due_le hclock (by omega))

/-! ### Handovers (R24 to R26, R71) -/

/-- The closing of a manifest reverts its records, or checks them out with a due hour in its range (R71). -/
theorem State.CustodyLaw.closeWith {s : State} (hs : s.CustodyLaw) {m : Manifest} {cause : Cause}
    (hdue : cause = .complete → ∀ due, m.route = .outbound due → s.clockHour + due ≤ 16777215) :
    (s.closeWith m cause).CustodyLaw := by
  have closed : (s.setRecords (s.closedRecords m cause)).CustodyLaw := by
    unfold State.closedRecords
    split
    · next due hroute =>
      refine hs.mapRecords (fun r => ?_) (fun r => .inr ?_) fun r _ h => ?_ <;> unfold State.closedRecord <;> split
      · rfl
      · split <;> simp
      · rfl
      · split <;> simp
      · exact h
      · split
        · next hc => exact h.checkedOut _ _ (hdue hc.2 due hroute)
        · exact h.reverted
    · exact hs
  exact closed.frame ((State.CustodyFrame.of_eq (by rfl) (by rfl)).raise .manifestClosed)

theorem State.active_eq_some {s : State} {m : Manifest} (h : s.active = some m) :
    s.manifest = some m ∧ m.stage = .active := by
  unfold State.active at h
  split at h
  · next hm => rw [Option.ite_none_right_eq_some] at h; obtain ⟨hstage, ⟨⟩⟩ := h; exact ⟨hm, hstage⟩
  · cases h

/-- Eligibility asks for an open gate of ZC (R23). -/
theorem State.gate_of_eligible {s : State} {r : Record} (h : s.eligibilityRefusal r = none) : s.gate .zc = none := by
  unfold State.eligibilityRefusal at h
  repeat' split at h
  all_goals simp_all

theorem State.CustodyLaw.ownAddItem {s : State} (hs : s.CustodyLaw) (label : Label) :
    (ownAddItem label s).state.CustodyLaw := by
  unfold Machine.ownAddItem
  repeat' split
  · exact hs
  · exact hs
  · exact hs
  · exact hs
  · exact hs
  · exact hs
  · next r hr _ he =>
    have hf := s.fire_ne_discharged_of_gate (s.gate_of_eligible he)
    have staged := hs.modifyRecord (l := label) s.staged_label (fun r => .inr (s.staged_home r)) fun x _ _ h => h.staged hf
    exact staged.frame (.of_eq rfl rfl)

theorem State.CustodyLaw.ownDropItem {s : State} (hs : s.CustodyLaw) (label : Label) :
    (ownDropItem label s).state.CustodyLaw := by
  have dropped := hs.modifyRecord (l := label) s.reverted_label (fun r => .inr (s.reverted_home r)) fun x _ _ h => h.reverted
  unfold Machine.ownDropItem
  split
  · exact hs
  · split
    · exact hs
    · split
      · exact hs
      · exact dropped.frame (.of_eq rfl rfl)

theorem State.CustodyLaw.ownCancelManifest {s : State} (hs : s.CustodyLaw) : (ownCancelManifest s).state.CustodyLaw := by
  unfold Machine.ownCancelManifest
  repeat' split
  · exact hs
  · exact hs.closeWith nofun
  · exact hs

/-- FINISH checks out with due hours that R66 bounds. -/
theorem State.CustodyLaw.ownFinish {s : State} (hs : s.CustodyLaw) (hi : s.Inv) : (ownFinish s).state.CustodyLaw := by
  refine whenIdentified_keeps hs fun e => ?_
  split
  · exact hs
  · next m hm =>
    obtain ⟨hm, -⟩ := s.active_eq_some hm
    obtain ⟨⟨-, -, -, hroute, -⟩, -⟩ := hi.handover.1 m (by simp [hm])
    obtain ⟨-, -, -, hclock⟩ := hi.settings
    exact hs.closeWith fun _ due hdue => s.due_le hclock (by simp_all [Route.wf])

theorem State.CustodyLaw.ownLeave {s : State} (hs : s.CustodyLaw) : (ownLeave s).state.CustodyLaw := by
  unfold Machine.ownLeave
  repeat' split
  · exact hs
  · exact hs.frame (.of_eq rfl rfl)
  · exact hs.closeWith nofun
  · exact hs.frame (.of_eq rfl rfl)

theorem holdOf_le (c : Coefficients) (t h : Int) (caseT caseH : Option Int) : holdOf c t h caseT caseH ≤ 720 := by
  unfold holdOf; split
  · exact min_le_left ..
  · exact le_rfl

/-- DEPOSIT returns a record while no zone is DISCHARGED (R58, R84). -/
theorem State.CustodyLaw.ownDeposit {s : State} (hs : s.CustodyLaw) (hi : s.Inv) (label : Label) :
    (ownDeposit label s).state.CustodyLaw := by
  refine whenIdentified_keeps hs fun e => ?_
  repeat' split
  · exact hs
  · exact hs
  · exact hs
  · exact hs
  · exact hs
  · next m hm _ caseT caseH _ _ _ =>
    obtain ⟨hm, hstage⟩ := s.active_eq_some hm
    obtain ⟨-, -, -, -, hforbid⟩ := hi.handover.1 m (by simp [hm])
    have hf := s.fire_ne_discharged_of_handover (hforbid (.inr hstage)) .zc
    have deposited := hs.modifyRecord (l := label) (s.returned_label (s.holdFor caseT caseH))
      (fun r => .inr (s.returned_home _ r)) fun x _ _ h => h.returned (holdOf_le ..) hf
    exact deposited.frame ((State.CustodyFrame.of_eq (by rfl) (by rfl)).raiseIf _ _)

/-! ### The fire sequence (R152, R156, R158) -/

theorem State.CustodyLaw.abandonForFire {s : State} (hs : s.CustodyLaw) : s.abandonForFire.CustodyLaw := by
  unfold State.abandonForFire
  repeat' split
  · exact hs.closeWith nofun
  · exact hs.frame (.of_eq rfl rfl)
  · exact hs
  · exact hs.frame (.of_eq rfl rfl)
  · exact hs

theorem State.CustodyLaw.secondKnock {s : State} (hs : s.CustodyLaw) (z : Zone) : (s.secondKnock z).CustodyLaw := by
  unfold State.secondKnock State.enterCountdown
  split
  · exact (hs.frame ((State.CustodyFrame.setFire s z _ (by nofun)).raise .countdown)).abandonForFire
  · exact hs

theorem State.CustodyLaw.ownManualRelease {s : State} (hs : s.CustodyLaw) (zone : Byte) :
    (ownManualRelease zone s).state.CustodyLaw := by
  unfold Machine.ownManualRelease
  repeat' split
  · exact hs
  · exact hs
  · exact hs.secondKnock _

/-- A DISCHARGED zone marks every record located in it (R158). -/
theorem State.CustodyLaw.discharge {s : State} (hs : s.CustodyLaw) (z : Zone) : (s.discharge z).CustodyLaw := by
  set u : State := State.writeBank { s with bank := .committed z (s.live.release.pulse * 1000) } .spent with hu
  have frame : s.CustodyFrame u := (State.CustodyFrame.of_eq (by rfl) (by rfl)).trans (.writeBank _ _)
  have marked : ((u.setFire z .discharged).agentZone z).CustodyLaw := by
    refine (hs.frame frame).mapRecords_of (t := u.setFire z .discharged)
      (f := fun r => r.giveAgent (decide (u.location r = some z))) rfl rfl (fun _ => rfl) (fun _ => .inr rfl) fun r _ ⟨hw, hm⟩ => ⟨hw, ?_⟩
    intro z' hz'
    obtain ⟨he, ha⟩ := hm z' hz'
    refine ⟨he, fun hf => ?_⟩
    rw [State.setFire_fire] at hf
    split at hf
    · next e =>
      have hl : u.location r = some z := e ▸ hz'
      simp [Record.giveAgent, hl]
    · simp [Record.giveAgent, ha hf]
  exact marked.frame (.raise (.refl _) _)

theorem State.CustodyLaw.countdownExpiry {s : State} (hs : s.CustodyLaw) (z : Zone) : (s.countdownExpiry z).CustodyLaw := by
  unfold State.countdownExpiry
  repeat' split
  · exact hs.discharge z
  · exact hs.frame ((State.CustodyFrame.setFire s z .starved nofun).raise .bankStarved)
  · exact hs

/-! ### Samples (R103, R104) -/

/-- A zone that enters EXCURSION marks every record located in it (R104). -/
theorem State.CustodyLaw.account {s : State} (hs : s.CustodyLaw) (z : Zone) (weight : Nat) :
    (s.account z weight).CustodyLaw := by
  unfold State.account
  extract_lets c a dose next t
  split
  · have marked : (t.exposeZone z).CustodyLaw := by
      refine hs.mapRecords_of (t := t) (f := fun r => r.expose (decide (s.location r = some z))) rfl rfl
        (fun _ => rfl) (fun _ => .inr rfl) fun r _ ⟨hw, hm⟩ => ⟨hw, ?_⟩
      intro z' hz'
      obtain ⟨he, ha⟩ := hm z' hz'
      refine ⟨fun hc => ?_, ha⟩
      rw [State.setAccount_climate] at hc
      split at hc
      · next e =>
        have hl : s.location r = some z := e ▸ hz'
        simp [Record.expose, hl]
      · simp [Record.expose, he hc]
    exact marked.frame (.raise (.refl _) _)
  · next hnot =>
    have frame : s.CustodyFrame t :=
      { records := rfl, bounds := rfl, fire := fun _ h => h
        climate := fun z' h => by
          rw [State.setAccount_climate] at h
          split at h
          · next e => subst e; by_contra hne; exact hnot ⟨hne, h⟩
          · exact h }
    exact hs.frame (frame.raiseIf _ _)

theorem State.CustodyLaw.goodSample {s : State} (hs : s.CustodyLaw) (z : Zone) (counts : RawCounts) :
    (s.goodSample z counts).CustodyLaw := by
  unfold State.goodSample
  extract_lets v c reading weight previous x s1 s2
  have h1 : s1.CustodyLaw := hs.frame (.setZone s z _ (by exact id))
  have h2 : s2.CustodyLaw := by
    unfold s2; split
    · exact h1
    · exact h1.account z weight
  split
  · exact h2.secondKnock z
  · exact h2

theorem State.CustodyLaw.sampleClimate {s : State} (hs : s.CustodyLaw) (z : Zone) (counts : RawCounts) :
    (s.sampleClimate z counts).CustodyLaw := by
  unfold State.sampleClimate
  extract_lets v x s1
  have h1 : s1.CustodyLaw := hs.frame (.setZone s z _ (by exact id))
  split
  · exact h1.frame (.sensorFault s1 z)
  · exact h1.goodSample z counts

/-! ### Ticks, the clock and the lines -/

theorem State.CustodyLaw.minuteTick {s : State} (hs : s.CustodyLaw) : s.minuteTick.CustodyLaw := by
  unfold State.minuteTick
  split
  · exact (hs.mapRecords Record.minute_label (fun r => .inr r.minute_home) fun r _ h => h.minute).frame
      ((State.CustodyFrame.refl _).raiseIf _ _)
  · exact hs

/-- The overdue check marks OUT records alone (R21). -/
theorem State.CustodyLaw.overdueCheck {s : State} (hs : s.CustodyLaw) : s.overdueCheck.CustodyLaw := by
  refine (hs.mapRecords (fun r => ?_) (fun r => .inr ?_) fun r _ h => ?_).frame ((State.CustodyFrame.refl _).raiseIf _ _)
  · split <;> rfl
  · split <;> rfl
  · split
    · next hn =>
      have ho : r.isOut = true := by unfold Record.newlyOverdue at hn; unfold Record.isOut; cases hs : r.state <;> simp_all
      obtain ⟨hw, hm⟩ := h
      refine ⟨?_, hm.of_same rfl rfl rfl⟩
      obtain ⟨_, _, _, hst⟩ := r.isOut_iff.mp ho
      simp_all [Record.wf, Record.isOut]
    · exact h

/-- The hour tick makes the overdue check while the clock is valid (R21). -/
theorem State.CustodyLaw.hourTick {s : State} (hs : s.CustodyLaw) :
    (if s.ret.clockValid then s.overdueCheck else s).CustodyLaw := by
  split
  · exact hs.overdueCheck
  · exact hs

theorem State.CustodyLaw.ownSetClock {s : State} (hs : s.CustodyLaw) (count : BitVec 32) :
    (ownSetClock count s).state.CustodyLaw :=
  State.CustodyLaw.overdueCheck (hs.frame ⟨rfl, rfl, fun _ h => h, fun _ h => h⟩)

theorem State.CustodyLaw.lineChange {s : State} (hs : s.CustodyLaw) (n : Fin 12) (level : Bool) :
    (s.lineChange n level).CustodyLaw := by
  unfold State.lineChange
  have ht : s.CustodyFrame (s.setLevel n level) := .of_eq rfl rfl
  dsimp only
  repeat' split
  · exact hs
  · exact hs.frame (ht.raiseIf _ _)
  · exact hs.frame ((ht.trans (.followDoor s _)).raiseIf _ _)
  · unfold abortLineChanged
    split
    · exact hs.frame ht
    · exact hs.frame (ht.trans (.abortChanged _ _))
  · exact (hs.frame ht).secondKnock _
  · exact hs.frame ht
  · exact hs.frame ht

theorem State.CustodyLaw.handoverExpiry {s : State} (hs : s.CustodyLaw) : s.handoverExpiry.CustodyLaw := by
  unfold State.handoverExpiry
  repeat' split
  · exact hs
  · exact hs
  · exact (hs.closeWith (cause := .timeout) nofun).frame ((State.CustodyFrame.refl _).raise _)
  · exact hs.frame (.of_eq rfl rfl)
  · exact hs.frame (.of_eq rfl rfl)

/-! ### Start-up (R28, R189, R190) -/

/-- Retained memory found kept or lost, with every zone begun QUIET (R145, R189). -/
theorem State.CustodyLaw.rebuilt {s : State} (hs : s.CustodyLaw) (lost : Bool) : (s.rebuilt lost).CustodyLaw := by
  have quiet (z : Zone) : (s.rebuilt lost).fire z = .quiet := by simp [State.fire, State.rebuilt, ZoneState.atStart]
  cases lost with
  | false => exact hs.frame ⟨rfl, rfl, fun _ h => h, fun z h => by rw [quiet] at h; cases h⟩
  | true =>
    exact
      { size := Nat.zero_le _, order := List.Pairwise.nil, slots := List.Pairwise.nil
        bounds := (by decide : Bounds.factory.wf), sound := nofun }

theorem State.CustodyLaw.startUp {s : State} (hs : s.CustodyLaw) (lost : Bool) : (s.startUp lost).CustodyLaw :=
  (hs.rebuilt lost).mapRecords (State.reverted_label _) (fun r => .inr (State.reverted_home _ r)) fun _ _ h => h.reverted

/-- A sample taken of one zone after another keeps the law when the sample of each does. -/
theorem State.CustodyLaw.foldl {f : State → Zone → State} (hf : ∀ t z, t.CustodyLaw → (f t z).CustodyLaw) (zs : List Zone)
    {s : State} (hs : s.CustodyLaw) : (zs.foldl f s).CustodyLaw := by
  induction zs generalizing s with
  | nil => exact hs
  | cons z zs ih => exact ih (hf s z hs)

theorem State.CustodyLaw.firstSamples {s : State} (hs : s.CustodyLaw) (climate : PerZone RawCounts)
    (loops : PerZone (BitVec 12)) : (s.firstSamples climate loops).CustodyLaw := by
  unfold State.firstSamples
  exact .foldl (fun t z ht => ht.frame (.sampleLoop t z _)) _ (.foldl (fun t z ht => ht.sampleClimate z _) _ hs)

/-! ### The boundaries (R33, R34) -/

/-- A boundary moved between its neighbours keeps the boundaries in order (R33). -/
theorem Bounds.wf_set {b : Bounds} (hb : b.wf) {k v : Nat} (hl : b.get (k - 1) ≤ v) (hu : v ≤ b.get (k + 1)) :
    (b.set k v).wf := by
  obtain ⟨h1, h2, h3, h4, h5⟩ := hb
  unfold Bounds.set
  split <;> simp only [Bounds.get] at hl hu <;> exact ⟨by omega, by omega, by omega, by omega, by omega⟩

/-- A record whose home slot stays on its side of a moved boundary stays in its zone (R34). -/
theorem Bounds.location_set {b : Bounds} (hb : b.wf) {k v : Nat} (h1 : 1 ≤ k) (h5 : k ≤ 5) (hl : b.get (k - 1) ≤ v)
    (hu : v ≤ b.get (k + 1)) {r : Record}
    (hfixed : ∀ slot, r.home = some slot → unitMoves (b.get k) v (unitOf slot) = false) :
    (b.set k v).location r = b.location r := by
  by_cases hs : r.state = .shelved
  · rw [Bounds.location_shelved _ hs, Bounds.location_shelved _ hs]
    refine Option.map_congr fun slot hslot => ?_
    have fixed := hfixed slot (by simpa using hslot)
    rw [unitMoves_eq b hb k v h1 h5 hl hu _ (by unfold unitOf; omega)] at fixed
    simpa [Bounds.zoneOfSlot] using fixed
  · by_cases ho : r.isOut = true
    · rw [Bounds.location_out _ ho, Bounds.location_out _ ho]
    · rw [Bounds.location_chamber _ hs (by simpa using ho), Bounds.location_chamber _ hs (by simpa using ho)]

theorem State.unitMoves_of_not_movedBound {s : State} {old new : Nat} (h : s.movedBound old new = false) {r : Record}
    (hr : r ∈ s.ret.records) {slot : Fin 1536} (hs : r.home = some slot) : unitMoves old new (unitOf slot) = false := by
  simpa [hs] using List.any_eq_false.mp h r hr

/-- A boundary moves over no slot that is bound, and no record changes its zone (R33, R34). -/
theorem State.CustodyLaw.ownSetBoundary {s : State} (hs : s.CustodyLaw) (boundary value : Byte) :
    (ownSetBoundary boundary value s).state.CustodyLaw := by
  unfold Machine.ownSetBoundary
  extract_lets k v b
  repeat' split
  · exact hs
  · exact hs
  · exact hs
  · exact hs
  · next hlower _ hrange horder _ hmoved =>
    have h1 : 1 ≤ k := Nat.one_le_iff_ne_zero.mpr fun h0 => by rw [h0] at hlower; cases hlower
    have hl : b.get (k - 1) ≤ v := by omega
    have hu : v ≤ b.get (k + 1) := by omega
    have location (r : Record) (hr : r ∈ s.ret.records) : (b.set k v).location r = b.location r :=
      Bounds.location_set hs.bounds h1 (by omega) hl hu fun slot =>
        s.unitMoves_of_not_movedBound (by simpa using hmoved) hr
    exact
      { size := hs.size, order := hs.order, slots := hs.slots, bounds := Bounds.wf_set hs.bounds hl hu
        sound := fun r hr => ⟨(hs.sound r hr).1, fun z hz => (hs.sound r hr).2 z ((location r hr).symm.trans hz)⟩ }
  · exact hs

end Sys2Proof.Machine
end

section
/-! Every step keeps the custody law: the law of every command, one case a constructor, and the idle millisecond. -/

namespace Sys2Proof.Machine

open Host

/-! ### What a command does beside its owner's or its timer's work -/

/-- A request keeps the law when its owner block does: an overrun and a lost frame touch the link alone (R168). -/
theorem State.CustodyLaw.request {s t : State} (hs : s.CustodyLaw) {k : LinkId} {code : Byte} {c : Instr}
    {owner : State → Answer} (h : takeRequest k code c owner s = .next t) (ho : (owner s).state.CustodyLaw) :
    t.CustodyLaw := by
  rcases takeRequest_cases s k code c owner with ⟨-, he⟩ | he | he <;> cases he.symm.trans h
  · exact ho.frame (.answered ..)
  · exact hs.frame (.discardFrame s k)
  · exact hs

/-- A request whose owner block leaves the custody table alone keeps the law. -/
theorem State.CustodyLaw.request_frame {s t : State} (hs : s.CustodyLaw) {k : LinkId} {code : Byte} {c : Instr}
    {owner : State → Answer} (h : takeRequest k code c owner s = .next t) (ho : s.CustodyFrame (owner s).state) :
    t.CustodyLaw := hs.request h (hs.frame ho)

/-- An event of the running part keeps the law when its effect does. -/
theorem State.CustodyLaw.event {s t : State} (hs : s.CustodyLaw) {f : State → State} (h : whileRunning f s = .next t)
    (hf : (f s).CustodyLaw) : t.CustodyLaw := by
  unfold whileRunning at h
  split at h <;> cases h
  · exact hf
  · exact hs

/-- A timer's event keeps the law when its effect does. -/
theorem State.CustodyLaw.timed {s t : State} (hs : s.CustodyLaw) {left : State → Nat} {f : State → State}
    (h : whenDue left f s = .next t) (hf : (f s).CustodyLaw) : t.CustodyLaw :=
  hs.event h (by split; exacts [hf, hs])

/-- The frame in reception, if any, is discarded (R167). -/
theorem State.CustodyLaw.discardIf {s : State} (hs : s.CustodyLaw) (k : LinkId) (c : Bool) :
    (if c then s.discardFrame k else s).CustodyLaw := by
  split
  · exact hs.frame (.discardFrame s k)
  · exact hs

/-! ### Reset, power and start-up -/

theorem State.CustodyLaw.execResetAssert {s t : State} (hs : s.CustodyLaw) (h : execResetAssert s = .next t) :
    t.CustodyLaw := by
  unfold Machine.execResetAssert at h
  split at h <;> cases h
  · exact hs.frame (.stop s _)
  · exact hs.frame (.stop s _)
  · exact hs
  · exact hs

theorem State.CustodyLaw.execPowerLoss {s t : State} (hs : s.CustodyLaw) (h : execPowerLoss s = .next t) : t.CustodyLaw := by
  unfold Machine.execPowerLoss at h
  split at h <;> cases h
  · exact hs
  · exact hs.frame (.stop s _)

theorem State.CustodyLaw.execStartUp {s t : State} (hs : s.CustodyLaw) (h : execStartUp s = .next t) : t.CustodyLaw := by
  unfold Machine.execStartUp at h
  split at h <;> cases h
  · exact hs.startUp _
  · exact hs.startUp _
  · exact hs
  · exact hs

theorem State.CustodyLaw.execStartUpComplete {s t : State} (hs : s.CustodyLaw) {pins : BitVec 12}
    {climate : PerZone RawCounts} {loops : PerZone (BitVec 12)}
    (h : execStartUpComplete pins climate loops s = .next t) : t.CustodyLaw := by
  unfold Machine.execStartUpComplete at h
  split at h <;> obtain rfl := Outcome.next.inj h
  · exact (hs.frame (.enterService s _ pins)).firstSamples climate loops
  · exact hs
  · exact hs
  · exact hs

theorem State.CustodyLaw.execBackupBelowRetention {s t : State} (hs : s.CustodyLaw)
    (h : execBackupBelowRetention s = .next t) : t.CustodyLaw := by
  unfold Machine.execBackupBelowRetention at h
  split at h <;> cases h
  · exact hs.frame (.of_eq rfl rfl)
  · exact hs

/-! ### Every command and every step -/

/-- Every command keeps the custody law in a part that meets the invariant. -/
theorem State.Inv.exec_custodyLaw {c : Instr} {s t : State} (hi : s.Inv) (h : exec c s = .next t) : t.CustodyLaw := by
  have hs := hi.custodyLaw
  obtain ⟨-, -, -, hclock⟩ := hi.settings
  cases c with
  | enroll label cls slot => exact hs.request h (hs.ownEnroll label cls slot)
  | lookup label => exact hs.request_frame h (.ownLookup label s)
  | slotQuery slot => exact hs.request_frame h (.ownSlotQuery slot s)
  | nextLabel label => exact hs.request_frame h (.ownNextLabel label s)
  | place label slot => exact hs.request h (hs.ownPlace label slot)
  | relocate label slot => exact hs.request h (hs.ownRelocate label slot)
  | unbind label => exact hs.request h (hs.ownUnbind label)
  | retire label => exact hs.request h (hs.ownRetire label)
  | clearMark label mark => exact hs.request h (hs.ownClearMark label mark)
  | setClass label cls => exact hs.request h (hs.ownSetClass label cls)
  | extendDue label hours => exact hs.request h (hs.ownExtendDue hclock label hours)
  | openManifest direction courier consignment due =>
    exact hs.request_frame h (.ownOpenManifest direction courier consignment due s)
  | addItem label => exact hs.request h (hs.ownAddItem label)
  | dropItem label => exact hs.request h (hs.ownDropItem label)
  | offerManifest => exact hs.request_frame h (.ownOfferManifest s)
  | cancelManifest => exact hs.request h hs.ownCancelManifest
  | readManifest => exact hs.request_frame h (.ownReadManifest s)
  | releaseManifest => exact hs.request_frame h (.ownReleaseManifest s)
  | enrolCourier entry badge code => exact hs.request_frame h (.ownEnrolCourier entry badge code s)
  | revokeCourier entry => exact hs.request_frame h (.ownRevokeCourier entry s)
  | unlockCourier entry => exact hs.request_frame h (.ownUnlockCourier entry s)
  | readCourier entry => exact hs.request_frame h (.ownReadCourier entry s)
  | setZoneMode zone mode => exact hs.request_frame h (.ownSetZoneMode zone mode s)
  | setBoundary boundary value => exact hs.request h (hs.ownSetBoundary boundary value)
  | setClimate => exact hs.request_frame h (.ownSetClimate ..)
  | readZone zone => exact hs.request_frame h (.ownReadZone zone s)
  | resetDose zone => exact hs.request_frame h (.ownResetDose zone s)
  | setTrim zone trimT trimH => exact hs.request_frame h (.ownSetTrim zone trimT trimH s)
  | setStartMode zone mode => exact hs.request_frame h (.ownSetStartMode zone mode s)
  | setConditioning kT kH base => exact hs.request_frame h (.ownSetConditioning kT kH base s)
  | readConditioning => exact hs.request_frame h (.refl s)
  | setLoop => exact hs.request_frame h (.ownSetLoop ..)
  | loopReturn loop => exact hs.request_frame h (.ownLoopReturn loop s)
  | clearLoopFlags loop o x a => exact hs.request_frame h (.ownClearLoopFlags loop o x a s)
  | abortRelease zone => exact hs.request_frame h (.ownAbortRelease zone s)
  | manualRelease zone => exact hs.request h (hs.ownManualRelease zone)
  | resetAlarm zone => exact hs.request_frame h (.ownResetAlarm zone s)
  | bankReloaded => exact hs.request_frame h (.ownBankReloaded s)
  | setRelease scope b0 b1 b2 b3 => exact hs.request_frame h (.ownSetRelease scope b0 b1 b2 b3 s)
  | status => exact hs.request_frame h (.refl s)
  | clearEvents choice => exact hs.request_frame h (.of_eq rfl rfl)
  | setEventEnable enables => exact hs.request_frame h (.ownSetEventEnable enables s)
  | setClock count => exact hs.request h (hs.ownSetClock count)
  | readClock => exact hs.request_frame h (.refl s)
  | setLine line level => exact hs.request_frame h (.ownSetLine line level s)
  | setExpect levels => exact hs.request_frame h (.ownSetExpect levels s)
  | setLineFunction direction line function zone =>
    exact hs.request_frame h (.ownSetLineFunction direction line function zone s)
  | setTimers handover release openLimit => exact hs.request_frame h (.ownSetTimers handover release openLimit s)
  | setClassLimit cls limit => exact hs.request_frame h (.ownSetClassLimit cls limit s)
  | storeSettings => exact hs.request_frame h (.ownStoreSettings s)
  | setLinkRate link divisor => exact hs.request_frame h (.ownSetLinkRate link divisor s)
  | identifyPart => exact hs.request_frame h (.refl s)
  | identify badge code => exact hs.request_frame h (.ownIdentify badge code s)
  | declare consignment caseT caseH => exact hs.request_frame h (.ownDeclare consignment caseT caseH s)
  | deposit label => exact hs.request h (hs.ownDeposit hi label)
  | accept label => exact hs.request_frame h (.ownChoose label .accepted s)
  | decline label => exact hs.request_frame h (.ownChoose label .declined s)
  | view => exact hs.request_frame h (.ownView s)
  | finish => exact hs.request h (hs.ownFinish hi)
  | leave => exact hs.request h hs.ownLeave
  | hatchStatus => exact hs.request_frame h (.refl s)
  | unknownRequest k code ps =>
    exact hs.event (f := fun s => if (s.link k).receiving then s else s.frameCompletes k code ps) h
      (by split; exacts [hs, hs.frame (.frameCompletes s k code ps)])
  | frameDiscard k =>
    exact hs.event (f := fun s => if (s.link k).receiving then s.discardFrame k else s) h (hs.discardIf k _)
  | frameGapTimeout k =>
    exact hs.timed (left := fun s => (s.link k).gapLeft)
      (f := fun s => if (s.link k).receiving then s.discardFrame k else s) h (hs.discardIf k _)
  | responseSent k => exact hs.event (f := fun s => s.responseEnds k) h (hs.frame (.responseEnds s k))
  | handoverTimerExpiry => exact hs.event h hs.handoverExpiry
  | releaseTimerExpiry => exact hs.event h (hs.frame (.releaseExpiry s))
  | hatchOpenLimitReached => exact hs.event h (hs.frame (.openLimitReached s))
  | verificationWindowExpiry z => exact hs.event (f := fun s => s.windowExpiry z) h (hs.frame (.windowExpiry s z))
  | countdownExpiry z => exact hs.event (f := fun s => s.countdownExpiry z) h (hs.countdownExpiry z)
  | releasePulseEnd => exact hs.event h (hs.frame (.pulseEnd s))
  | climateSample z counts =>
    exact hs.timed (left := fun s => (s.zones.get z).sampleLeft) (f := fun s => s.sampleClimate z counts) h
      (hs.sampleClimate z counts)
  | loopSample z count =>
    exact hs.timed (left := fun s => (s.zones.get z).loopLeft) (f := fun s => s.sampleLoop z count) h
      (hs.frame (.sampleLoop s z count))
  | elapsedMinuteTick =>
    exact hs.timed (f := fun s => { s.minuteTick with minuteLeft := 60000 }) h (hs.minuteTick.frame (.of_eq rfl rfl))
  | elapsedHourTick =>
    exact hs.timed (f := fun s => { (if s.ret.clockValid then s.overdueCheck else s) with hourLeft := 3600000 }) h
      (hs.hourTick.frame (.of_eq rfl rfl))
  | siteClockSecond => cases h; exact hs.frame (.clockSecond s)
  | storeWriteComplete => exact hs.event h (hs.frame (.storeComplete s))
  | inputLineChange n level => exact hs.event (f := fun s => s.lineChange n level) h (hs.lineChange n level)
  | resetAssert => exact hs.execResetAssert h
  | powerLoss => exact hs.execPowerLoss h
  | startUp => exact hs.execStartUp h
  | startUpComplete pins climate loops => exact hs.execStartUpComplete h
  | backupBelowRetention => exact hs.execBackupBelowRetention h
  | characterReceived k char ok => exact hs.event (f := fun s => s.character k char ok) h (hs.frame (.character s k char ok))

/-- The invariant says nothing of the queue. -/
theorem State.Inv.setPending {s : State} (h : s.Inv) (rest : List Instr) : State.Inv { s with pending := rest } :=
  ⟨h.table, h.bounds, h.marks, h.couriers, h.staged, h.handover, h.timers, h.zones, h.settings, h.bank, h.start, h.links⟩

/-- Every step keeps the custody law: a command of the queue does, and the idle millisecond touches timers alone. -/
theorem State.Inv.step_custodyLaw {s t : State} (hi : s.Inv) (h : step s = .next t) : t.CustodyLaw := by
  unfold step at h
  split at h
  · cases h; exact hi.custodyLaw.frame (.idle s)
  · next rest _ => exact (hi.setPending rest).exec_custodyLaw h

/-- Settles O54, from the custody law that every step keeps. -/
theorem stepKeepsTableAndBounds : Obligations.StepKeepsTableAndBounds := fun _ _ hi h =>
  let law := hi.step_custodyLaw h
  ⟨law.tableWf, law.bounds⟩

/-- Settles O55, from the custody law that every step keeps. -/
theorem stepKeepsMarks : Obligations.StepKeepsMarks := fun _ _ hi h => (hi.step_custodyLaw h).marksLaw

end Sys2Proof.Machine
end

section
/-! The requests of the custody table (R8 to R18): the answer of each owner block, and with it what the request makes of the
part. -/

namespace Sys2Proof.Machine

open Host

/-! ### Answers and their tests -/

/-- An answer that is refused for the refusal of its tests, and accepted without one, is what the tests judge. -/
theorem judged_of_answer {s t : State} {k : LinkId} {code : Byte} {tests : List (Bool × Status)} {results : List Byte}
    {a : Answer} {refusal : Option Status} (hr : refusal = firstFailing tests)
    (hrefused : ∀ x, refusal = some x → a = refused s x) (haccepted : refusal = none → a = accepted t results) :
    (.next (a.state.answered k code a.status a.results) : Outcome State Fault Refusal) =
      judged s k code tests t results := by
  unfold judged
  rw [← hr]
  cases h : refusal with
  | some x => rw [hrefused x h]; rfl
  | none => rw [haccepted h]; rfl

/-- A change of the table leaves the boundaries, so that a summary is read as before. -/
theorem State.setRecords_summary (s : State) (rs : List Record) (r : Record) : (s.setRecords rs).summary r = s.summary r :=
  State.summary_congr rfl r

theorem changeRecord_eq (label : Label) (f : Record → Record) (s : State) (r : Record) :
    changeRecord label f s r = accepted (s.modifyRecord label f) (s.summary (f r)) :=
  congrArg (accepted _) (s.setRecords_summary _ (f r))

/-- A request that its owner block refuses outright. -/
theorem takeRequest_refused {s : State} {k : LinkId} {code : Byte} {c : Instr} {owner : State → Answer} {x : Status}
    (h : s.takes k c) (ho : owner s = refused s x) : takeRequest k code c owner s = .next (s.answered k code x []) := by
  rw [takeRequest_taken owner h, ho]; rfl

/-! ### ENROLL (R8) -/

theorem ownEnroll_badParam {s : State} {label : Label} {cls : Byte} {slot : BitVec 16}
    (h : labelOk label = false ∨ classOf cls = none ∨ slotParam slot = none) :
    ownEnroll label cls slot s = refused s .badParam := by
  unfold ownEnroll
  cases hc : classOf cls <;> cases hs : slotParam slot <;> simp_all

theorem State.newRecord_eq (s : State) (label : Label) (cls : Fin 8) (home : Option (Fin 1536)) :
    s.newRecord label cls home =
      { label := label, cls := cls, state := if home.isSome then .shelved else .unplaced, home := home, count := 0
        marks := { exposed := home.isNone && s.inExcursion .zc, agent := false, overdue := false, worn := false } } := by
  cases home <;> rfl

/-- Settles O12: the tests before the slot's, then the slot's, the gate's and the EXCURSION's. -/
theorem enrollMakesARecord : Obligations.EnrollMakesARecord := by
  intro s label cls slot htake
  refine ⟨fun h => takeRequest_refused htake (ownEnroll_badParam h), fun c home hl hc hs => ?_⟩
  dsimp only
  rw [← s.newRecord_eq]
  refine (takeRequest_taken (ownEnroll label cls slot) htake).trans (judged_of_answer (refusal :=
    if (s.find label).isSome then some .alreadyExists
    else if Config.tableSize ≤ s.ret.records.length then some .tableFull
    else s.enrollRefusal home) ?_ (fun x hx => ?_) fun hx => ?_)
  · rw [s.enrollRefusal_eq]; simp [Config.tableSize]; rfl
  all_goals
    simp only [ownEnroll, hc, hs, hl, Bool.true_eq_false, if_false]
    by_cases hfind : (s.find label).isSome = true
    · simp_all
    · by_cases hfull : Config.tableSize ≤ s.ret.records.length
      · simp_all
      · rw [if_neg hfind, if_neg hfull] at hx ⊢
        simp only [hx, State.setRecords_summary]

/-! ### LOOKUP, SLOT_QUERY and NEXT_LABEL (R9 to R11) -/

theorem State.find_eq_none {s : State} {label : Label} (h : s.find label = none) : ∀ r ∈ s.ret.records, r.label ≠ label := by
  simpa [State.find, findRecord] using h

theorem State.slotHolder_eq_some {s : State} {slot : Fin 1536} {r : Record} (h : s.slotHolder slot = some r) :
    r ∈ s.ret.records ∧ r.home = some slot := ⟨List.mem_of_find?_eq_some h, by simpa using List.find?_some h⟩

/-- The first character that differs decides (R3). -/
theorem bytesBefore_iff {a b : List Byte} (hl : a.length = b.length) : bytesBefore a b = true ↔
    ∃ i, ∃ (ha : i < a.length) (hb : i < b.length), a.take i = b.take i ∧ a[i].toNat < b[i].toNat := by
  induction a generalizing b with
  | nil => cases b <;> simp [bytesBefore]
  | cons x xs ih =>
    cases b with
    | nil => simp at hl
    | cons y ys =>
      have hl' : xs.length = ys.length := by simpa using hl
      by_cases hxy : x = y
      · subst hxy
        rw [bytesBefore, if_pos rfl, ih hl']
        constructor
        · rintro ⟨i, ha, hb, ht, hlt⟩
          exact ⟨i + 1, by simpa using ha, by simpa using hb, by simpa using ht, by simpa using hlt⟩
        · rintro ⟨i, ha, hb, ht, hlt⟩
          cases i with
          | zero => simp at hlt
          | succ i => exact ⟨i, by simpa using ha, by simpa using hb, by simpa using ht, by simpa using hlt⟩
      · rw [bytesBefore, if_neg hxy, decide_eq_true_eq]
        constructor
        · intro hlt
          exact ⟨0, by simp, by simp, rfl, by simpa using hlt⟩
        · rintro ⟨i, ha, hb, ht, hlt⟩
          cases i with
          | zero => simpa using hlt
          | succ i => simp [hxy] at ht

/-- One label comes before another by the first character that differs (R3). -/
theorem labelBefore_iff (a b : Label) : labelBefore a b = true ↔
    ∃ i : Fin 8, (∀ j : Fin 8, j < i → a[j] = b[j]) ∧ a[i].toNat < b[i].toNat := by
  rw [labelBefore, bytesBefore_iff (by simp)]
  constructor
  · rintro ⟨i, ha, hb, ht, hlt⟩
    refine ⟨⟨i, by simpa using ha⟩, fun j hj => ?_, by simpa using hlt⟩
    have hji : j.val < i := hj
    have := congrArg (fun l => l[j.val]?) ht
    simpa [List.getElem?_take_of_lt hji] using this
  · rintro ⟨i, heq, hlt⟩
    refine ⟨i.val, by simp, by simp, List.ext_getElem (by simp) fun j h _ => ?_, by simpa using hlt⟩
    have hj : j < i.val := by simp at h; omega
    simpa using heq ⟨j, by omega⟩ hj

/-- The first record that comes after a label, in a table in label order, is the one of the smallest such label (R11). -/
theorem nextRecord_of_least {label : Label} {rs : List Record} (ho : inLabelOrder rs) {r : Record} (hr : r ∈ rs)
    (hafter : label = emptyLabel ∨ labelBefore label r.label = true)
    (hleast : ∀ x ∈ rs, (label = emptyLabel ∨ labelBefore label x.label = true) → labelBefore x.label r.label = false) :
    nextRecord label rs = some r := by
  have hsome : (nextRecord label rs).isSome := List.find?_isSome.mpr ⟨r, hr, by simpa using hafter⟩
  obtain ⟨y, hy⟩ := Option.isSome_iff_exists.mp hsome
  obtain ⟨hafter_y, before, rest, rfl, hbefore⟩ := List.find?_eq_some_iff_append.mp hy
  rcases List.mem_append.mp hr with hmem | hmem
  · exact absurd hafter (by simpa using hbefore r hmem)
  · rcases List.mem_cons.mp hmem with rfl | hmem
    · exact hy
    · have hyr := List.rel_of_pairwise_cons (List.pairwise_append.mp ho).2.1 hmem
      rw [hleast y (by simp) (by simpa using hafter_y)] at hyr
      cases hyr

/-- Settles O13: the owners' answers, the order of labels by its first differing character, and the least label after one. -/
theorem lookupsReportTheTable : Obligations.LookupsReportTheTable := by
  refine ⟨⟨fun s label htake => ?_, fun s slot htake => ⟨fun h => ?_, fun slot' h => ?_⟩,
    fun s label => ⟨fun r h => ⟨findRecord_mem h, findRecord_label h⟩, s.find_eq_none⟩,
    fun s slot => ⟨fun r => s.slotHolder_eq_some, fun h r => s.home_ne_of_not_slotBound (by simp [State.slotBound, h]), rfl⟩⟩,
    labelBefore_iff, fun s label htake => ⟨fun hl hne => ?_, fun hok => ⟨fun hnone => ?_, fun r hr hafter ho hleast => ?_⟩⟩⟩
  · exact (takeRequest_taken (ownLookup label) htake).trans (withRecord_onRecord s _ _ _ _ fun r _ => rfl)
  · exact takeRequest_refused htake (by simp [ownSlotQuery, h])
  · refine (takeRequest_taken (ownSlotQuery slot) htake).trans ?_
    cases hb : s.slotHolder slot' <;> simp [ownSlotQuery, h, hb, absent, yesNo]
  · exact takeRequest_refused htake (by simp [ownNextLabel, hl, hne])
  · have hn : nextRecord label s.ret.records = none := List.find?_eq_none.mpr fun x hx => by simpa using hnone x hx
    have hgood : ¬ (labelOk label = false ∧ label ≠ emptyLabel) := by rcases hok with h | h <;> simp [h]
    exact takeRequest_refused htake (by rw [ownNextLabel, if_neg hgood, hn])
  · have hn := nextRecord_of_least ho hr hafter hleast
    have hgood : ¬ (labelOk label = false ∧ label ≠ emptyLabel) := by rcases hok with h | h <;> simp [h]
    refine (takeRequest_taken (ownNextLabel label) htake).trans ?_
    rw [ownNextLabel, if_neg hgood, hn]
    rfl

end Sys2Proof.Machine
end

section
/-! The requests that change one record (R12 to R18): each is its tests and the change it makes. -/

namespace Sys2Proof.Machine

open Host

/-- A facility request on a record, taken by its link: refused for its label, for a record that is not there, or left to the
record (section 1.4). -/
theorem takeRequest_onRecord {s : State} {code : Byte} {c : Instr} {label : Label} {owner : State → Answer}
    {f : Record → Answer} {g : Record → Outcome State Fault Refusal} (h : s.takes .facility c)
    (ho : owner s = withRecord label s f)
    (hg : ∀ r, s.find label = some r → .next ((f r).state.answered .facility code (f r).status (f r).results) = g r) :
    takeRequest .facility code c owner s = onRecord s code label g := by
  rw [takeRequest_taken owner h, ho]
  exact withRecord_onRecord s code label f g hg

/-- A change of a record under tests is what the tests judge. -/
theorem judged_changeRecord {s : State} {code : Byte} {tests : List (Bool × Status)} {label : Label} {r : Record}
    {f : Record → Record} {a : Answer} {refusal : Option Status} (hr : refusal = firstFailing tests)
    (hrefused : ∀ x, refusal = some x → a = refused s x) (hchanged : refusal = none → a = changeRecord label f s r) :
    (.next (a.state.answered .facility code a.status a.results) : Outcome State Fault Refusal) =
      judged s .facility code tests (s.modifyRecord label f) (s.summary (f r)) :=
  judged_of_answer hr hrefused fun h => (hchanged h).trans (changeRecord_eq label f s r)

/-! ### PLACE and RELOCATE (R12, R13) -/

/-- Settles O14: the tests of each request, then the record shelved at its target. -/
theorem placeAndRelocate : Obligations.PlaceAndRelocate := by
  refine ⟨fun s label slot htake => ⟨fun h => ?_, fun given h => ?_⟩,
    fun s label slot htake => ⟨fun h => ?_, fun target h => ?_⟩⟩
  · exact takeRequest_refused htake (by rw [ownPlace, h])
  · refine takeRequest_onRecord htake (by rw [ownPlace, h]) fun r _ => ?_
    by_cases hstate : r.state = .unplaced ∨ r.state = .ready
    · rw [if_pos hstate, if_pos hstate, show (given.orElse fun _ => r.home) = given.or r.home by cases given <;> rfl]
      cases given.or r.home with
      | none => rfl
      | some target =>
        dsimp only
        rw [List.append_assoc _ (s.gateTests _) [_]]
        exact judged_changeRecord (s.placeRefusal_eq r target) (fun x hx => by rw [hx]) fun hx => by rw [hx]; rfl
    · rw [if_neg hstate, if_neg hstate]; rfl
  · exact takeRequest_refused htake (by rw [ownRelocate, h])
  · refine takeRequest_onRecord htake (by rw [ownRelocate, h]) fun r _ => ?_
    cases hhome : r.home with
    | none => cases r.state <;> rfl
    | some source =>
      dsimp only
      by_cases hstate : r.state = .shelved
      · have hr : ({ r with home := some target } : Record) = r.shelveAt target := by simp [Record.shelveAt, hstate]
        rw [hr]
        refine judged_changeRecord (f := fun r => r.shelveAt target) (refusal := s.relocateRefusal source target) ?_
          (fun x hx => by simp [hstate, hx]) fun hx => by simp [hstate, hx]
        rw [s.relocateRefusal_eq, State.arrivalTests]; simp [hstate]
      · refine judged_of_answer (refusal := some .wrongState) (by simp [hstate]) (fun x hx => ?_) nofun
        cases hx; cases hs : r.state <;> simp_all

/-! ### UNBIND and RETIRE (R14, R15) -/

/-- Settles O15: UNBIND by the record's state, RETIRE by the zone where the record is located. -/
theorem unbindAndRetire : Obligations.UnbindAndRetire := by
  refine ⟨fun s label htake => ?_, fun s label htake => ?_⟩
  · exact takeRequest_onRecord htake rfl fun r _ =>
      judged_changeRecord (s.unbindRefusal_eq r) (fun x hx => by rw [hx]) fun hx => by rw [hx]
  · refine takeRequest_onRecord htake rfl fun r _ => ?_
    cases hl : s.location r with
    | none => rw [s.retireRefusal_of_nowhere hl]; rfl
    | some z =>
      refine judged_of_answer (s.retireRefusal_eq hl) (fun x hx => by rw [hx]) fun hx => ?_
      simp [hx, removeRecord]

/-! ### CLEAR_MARK, SET_CLASS and EXTEND_DUE (R16 to R18) -/

/-- Each of the four mark numbers takes off one mark (R16). -/
theorem Marks.without_eq (m : Marks) {mark : Byte} (h : mark.toNat ≤ 3) : m.without mark.toNat =
    { exposed := m.exposed && decide (mark ≠ 0), agent := m.agent && decide (mark ≠ 1)
      overdue := m.overdue && decide (mark ≠ 2), worn := m.worn && decide (mark ≠ 3) } := by
  have hm : mark = 0 ∨ mark = 1 ∨ mark = 2 ∨ mark = 3 := by bv_omega
  rcases hm with rfl | rfl | rfl | rfl <;> simp [Marks.without]

/-- Settles O16, one request after the other. -/
theorem recordFieldRequests : Obligations.RecordFieldRequests := by
  refine ⟨fun s label mark htake => ⟨fun h => ?_, fun h => ?_⟩, fun s label cls htake => ⟨fun h => ?_, fun c h => ?_⟩,
    fun s label hours htake => ⟨fun h => ?_, fun hlo hhi => ?_⟩⟩
  · exact takeRequest_refused htake (by rw [ownClearMark, if_pos h])
  · dsimp only
    refine takeRequest_onRecord htake (by rw [ownClearMark, if_neg (by omega)]) fun r _ => ?_
    refine judged_changeRecord (refusal := s.clearMarkRefusal r mark.toNat) ?_ (fun x hx => by rw [hx])
      fun hx => by rw [hx]; simp only [Marks.without_eq _ h]
    have h0 : mark.toNat = 0 ↔ mark = 0 := by bv_omega
    have h1 : mark.toNat = 1 ↔ mark = 1 := by bv_omega
    simp only [s.clearMarkRefusal_eq, h0, h1]
  · exact takeRequest_refused htake (by rw [ownSetClass, h])
  · refine takeRequest_onRecord htake (by rw [ownSetClass, h]) fun r _ => ?_
    rw [changeRecord_eq]; rfl
  · exact takeRequest_refused htake (by rw [ownExtendDue, if_pos h])
  · refine takeRequest_onRecord htake (by rw [ownExtendDue, if_neg (by omega)]) fun r _ => ?_
    refine judged_changeRecord (f := Record.extended (s.clockHour + hours.toNat)) rfl (fun x hx => ?_) fun hx => ?_
    all_goals cases ho : r.isOut <;> cases hv : s.ret.clockValid <;> simp_all

end Sys2Proof.Machine
end

section
/-! The settings of no zone's mode (R22, R46, R75, R119, R180), and the site clock with its overdue check (R21, R185). -/

namespace Sys2Proof.Machine

open Host

/-! ### Settings under a store write -/

/-- A request that is refused during a store write and accepted otherwise. -/
theorem judged_storeBusy {s t : State} {k : LinkId} {code : Byte} {c : Instr} {owner : State → Answer} {results : List Byte}
    (h : s.takes k c) (ho : owner s = if s.storeBusy then refused s .storeBusy else accepted t results) :
    takeRequest k code c owner s = judged s k code [(s.storeBusy, .storeBusy)] t results := by
  rw [takeRequest_taken owner h, ho]
  cases hb : s.storeBusy <;> rfl

/-- The three timer lengths, each held within its range (R75). -/
theorem clampedTimers_eq (h r o : BitVec 16) : clampedTimers h r o =
    { handover := max 30 (min 900 h.toNat), release := max 10 (min 600 r.toNat), openLimit := max 10 (min 300 o.toNat) } := by
  simp [clampedTimers, clampNat_eq]

/-- Settles O21: each request is refused during a store write, and otherwise sets its live value. -/
theorem globalSettingsAreSet : Obligations.GlobalSettingsAreSet := by
  refine ⟨fun s cls limit htake => ⟨fun h => ?_, fun c h => ?_⟩, fun s zone mode htake => ⟨fun h => ?_, fun z m hz hm => ?_⟩,
    fun s h r o htake => ?_, fun s kT kH base htake => ?_, fun s enables htake => judged_storeBusy htake rfl⟩
  · exact takeRequest_refused htake (by rw [ownSetClassLimit, h])
  · exact judged_storeBusy htake (by rw [ownSetClassLimit, h, ← classOf_byte h])
  · refine takeRequest_refused htake ?_
    rcases h with h | h
    · simp [ownSetStartMode, h]
    · cases hz : zoneOf zone <;> simp [ownSetStartMode, h, hz]
  · exact judged_storeBusy htake (by rw [ownSetStartMode, hz, hm, ← zoneOf_byte hz, ← modeOf_byte hm])
  · exact judged_storeBusy htake (by rw [ownSetTimers, clampedTimers_eq])
  · exact judged_storeBusy htake (by simp [ownSetConditioning, clampNat_eq])

/-! ### The overdue check (R21) -/

/-- The record is OUT past its due hour at a clock hour. -/
def Record.late (hour : Nat) (r : Record) : Prop :=
  ∃ courier consignment due, r.state = .out courier consignment due ∧ due ≤ hour

theorem Record.newlyOverdue_iff (hour : Nat) (r : Record) :
    r.newlyOverdue hour = true ↔ r.late hour ∧ r.marks.overdue = false := by
  unfold Record.newlyOverdue Record.late
  cases h : r.state <;> simp

/-- The record as the overdue check leaves it: a late one carries OVERDUE, which it may have carried before. -/
theorem Record.overdue_of_late {hour : Nat} {r : Record} (h : r.late hour) :
    (if r.newlyOverdue hour then { r with marks := { r.marks with overdue := true } } else r) =
      { r with marks := { r.marks with overdue := true } } := by
  split
  · rfl
  · next hn =>
    have ho : r.marks.overdue = true := by simpa [Record.newlyOverdue_iff, h] using hn
    rw [← ho]

theorem State.overdueCheck_records (s : State) : s.overdueCheck.ret.records = s.ret.records.map fun r =>
    if r.newlyOverdue s.clockHour then { r with marks := { r.marks with overdue := true } } else r := by
  simp [State.overdueCheck]

/-- The event is raised when a record gains the mark. -/
theorem State.overdueCheck_flags (s : State) : s.overdueCheck.flags =
    if s.ret.records.any fun r => r.newlyOverdue s.clockHour then s.flags ||| EventFlag.overdue.mask else s.flags := by
  simp [State.overdueCheck]

/-- The check touches the marks and the event flags alone. -/
theorem State.overdueCheck_eq (s : State) : s.overdueCheck =
    { s with ret := { s.ret with records := s.overdueCheck.ret.records }, flags := s.overdueCheck.flags } := by
  unfold State.overdueCheck State.raiseIf
  dsimp only
  split <;> rfl

theorem State.overdueCheck_late {s : State} {n : Nat} {r : Record} (h : s.ret.records[n]? = some r)
    (hl : r.late s.clockHour) :
    s.overdueCheck.ret.records[n]? = some { r with marks := { r.marks with overdue := true } } := by
  rw [s.overdueCheck_records, List.getElem?_map, h, Option.map_some, Record.overdue_of_late hl]

theorem State.overdueCheck_not_late {s : State} {n : Nat} {r : Record} (h : s.ret.records[n]? = some r)
    (hl : ¬ r.late s.clockHour) : s.overdueCheck.ret.records[n]? = some r := by
  have hn : r.newlyOverdue s.clockHour = false := by
    rw [Bool.eq_false_iff, Ne, Record.newlyOverdue_iff]; exact fun hx => hl hx.1
  rw [s.overdueCheck_records, List.getElem?_map, h, Option.map_some, hn]; rfl

theorem State.overdueCheck_raises {s : State} (h : ∃ r ∈ s.ret.records, r.late s.clockHour ∧ r.marks.overdue = false) :
    s.overdueCheck.flags = s.flags ||| EventFlag.overdue.mask := by
  obtain ⟨r, hr, hn⟩ := h
  rw [s.overdueCheck_flags, if_pos (List.any_eq_true.mpr ⟨r, hr, (r.newlyOverdue_iff _).mpr hn⟩)]

theorem State.overdueCheck_raises_nothing {s : State}
    (h : ∀ r ∈ s.ret.records, r.late s.clockHour → r.marks.overdue = true) : s.overdueCheck.flags = s.flags := by
  rw [s.overdueCheck_flags, if_neg]
  rw [List.any_eq_true]
  rintro ⟨r, hr, hn⟩
  obtain ⟨hl, ho⟩ := (r.newlyOverdue_iff _).mp hn
  simp [h r hr hl] at ho

/-! ### The clock (R185) -/

/-- An hour tick that is due makes the check while the clock is valid, and the next is an hour away. -/
theorem execElapsedHourTick_due {s : State} (hp : s.phase = .running) (hdue : s.hourLeft = 0) : execElapsedHourTick s =
    .next { (if s.ret.clockValid then s.overdueCheck else s) with hourLeft := 3600000 } := by
  unfold execElapsedHourTick; exact whenDue_due hp hdue

theorem execElapsedHourTick_early {s : State} (h : s.hourLeft ≠ 0) : execElapsedHourTick s = .next s := by
  unfold execElapsedHourTick; exact whenDue_early h

theorem State.clockSecond_early {s : State} (h : s.secondLeft ≠ 0) : s.clockSecond = s := by simp [State.clockSecond, h]

/-- The clock stands while neither supply drives it (R189). -/
theorem State.clockSecond_stopped {s : State} (hu : s.phase = .unpowered) (hf : s.monitorFell = true) : s.clockSecond = s := by
  simp [State.clockSecond, hu, hf]

theorem State.clockSecond_due {s : State} (hdue : s.secondLeft = 0) (h : s.phase ≠ .unpowered ∨ s.monitorFell = false) :
    s.clockSecond = { s with ret := { s.ret with clock := min 4294967295 (s.ret.clock + 1) }, secondLeft := 1000 } := by
  rw [State.clockSecond, if_neg (by simp [hdue]), if_neg (by rintro ⟨hu, hf⟩; simp [hu, hf] at h)]; rfl

/-- Settles O48, from what the overdue check does to a late record and to any other, and the cases of the second. -/
theorem clockAndOverdueCheck : Obligations.ClockAndOverdueCheck := by
  refine ⟨fun s => ⟨s.overdueCheck_eq, by rw [s.overdueCheck_records, List.length_map],
      fun n r h => ⟨fun hl => s.overdueCheck_late h hl, fun hl => s.overdueCheck_not_late h hl⟩,
      s.overdueCheck_raises, s.overdueCheck_raises_nothing⟩,
    fun s count htake => ?_,
    fun s => ⟨execElapsedHourTick_early, fun h => congrArg Outcome.next (s.clockSecond_early h)⟩,
    fun s hp hdue => ⟨fun hv => ?_, fun hv => ?_⟩,
    fun s hdue => ⟨fun h => congrArg Outcome.next (s.clockSecond_due hdue h),
      fun hu hf => congrArg Outcome.next (s.clockSecond_stopped hu hf)⟩⟩
  · refine (takeRequest_taken (ownSetClock count) htake).trans ?_
    have bytes : (ownSetClock count s).results = be32 count.toNat ++ [1] := by
      show State.clockBytes (State.overdueCheck _) = _
      rw [State.overdueCheck_eq]; rfl
    rw [bytes]; rfl
  · exact (execElapsedHourTick_due hp hdue).trans (by rw [hv]; rfl)
  · exact (execElapsedHourTick_due hp hdue).trans (by rw [hv]; rfl)

end Sys2Proof.Machine
end

section
/-! The RESET pin, the loss of power and start-up (R27, R28, R172, R187 to R190). -/

namespace Sys2Proof.Machine

open Host

/-! ### A cut store write (R187) -/

/-- One of two values taken by a choice, and what is read of it. -/
theorem oneOf_ite {α β : Type} (f : α → β) (c : Bool) (old new : α) : oneOf (f (if c then new else old)) (f old) (f new) := by
  cases c
  · exact .inl rfl
  · exact .inr rfl

theorem ZoneSettings.torn_mixOf (isNew : StoredValue → Bool) (z : Zone) (old new : ZoneSettings) :
    (old.torn isNew z new).mixOf old new := by
  refine ⟨oneOf_ite id .., ⟨?_, ?_, ?_, ?_, ?_, ?_, ?_, ?_, ?_⟩, ⟨?_, ?_⟩, ⟨?_, ?_, ?_, ?_, ?_⟩, ?_, ?_, ?_⟩
  · exact oneOf_ite ClimateSettings.period ..
  · exact oneOf_ite ClimateSettings.staleLimit ..
  · exact oneOf_ite ClimateSettings.rhTarget ..
  · exact oneOf_ite ClimateSettings.rhBand ..
  · exact oneOf_ite ClimateSettings.tTarget ..
  · exact oneOf_ite ClimateSettings.tBand ..
  · exact oneOf_ite ClimateSettings.recovery ..
  · exact oneOf_ite ClimateSettings.alert ..
  · exact oneOf_ite ClimateSettings.exposure ..
  · exact oneOf_ite Trims.t ..
  · exact oneOf_ite Trims.h ..
  · exact oneOf_ite LoopSettings.openMax ..
  · exact oneOf_ite LoopSettings.normalMax ..
  · exact oneOf_ite LoopSettings.alarmMax ..
  · exact oneOf_ite LoopSettings.policy ..
  · exact oneOf_ite LoopSettings.capture ..
  · exact oneOf_ite ReleaseSettings.enabled ..
  · exact oneOf_ite ReleaseSettings.heatAbs ..
  · exact oneOf_ite ReleaseSettings.heatRise ..

/-- A number mixed bit by bit has each bit of the one or of the other; bits beyond its width are 0 in both. -/
theorem mixBits_oneOf {w : Nat} (isNew : Fin w → Bool) (old new : BitVec w) (i : Nat) :
    oneOf ((mixBits isNew old new).getLsbD i) (old.getLsbD i) (new.getLsbD i) := by
  by_cases hi : i < w
  · rw [mixBits_getLsbD isNew old new ⟨i, hi⟩]; exact oneOf_ite id ..
  · exact .inl (by simp [BitVec.getLsbD_of_ge, Nat.not_lt.mp hi])

theorem ofFn_oneOf {α : Type} {n : Nat} (isNew : Fin n → Bool) (old new : Vector α n) (i : Fin n) :
    oneOf (Vector.ofFn fun i => if isNew i then new[i] else old[i])[i] old[i] new[i] := by
  simpa using oneOf_ite id (isNew i) old[i] new[i]

/-- Each tunable that a cut write leaves stored is the old one or the new one (R187). -/
theorem Tunables.torn_mixOf (isNew : StoredValue → Bool) (old new : Tunables) : (old.torn isNew new).mixOf old new := by
  refine ⟨fun z => ?_, ⟨?_, ?_, ?_⟩, ⟨?_, ?_, ?_⟩, ⟨?_, ?_, ?_⟩, ofFn_oneOf (fun c => isNew (.classLimit c)) _ _,
    mixBits_oneOf (fun i => isNew (.enable i)) _ _,
    fun n => ⟨ofFn_oneOf (fun n => isNew (.input n)) _ _ n, ofFn_oneOf (fun n => isNew (.output n)) _ _ n⟩,
    fun i => ⟨mixBits_oneOf (fun n => isNew (.expected n)) _ _ i, mixBits_oneOf (fun n => isNew (.hostLevel n)) _ _ i⟩,
    oneOf_ite id .., oneOf_ite id ..⟩
  · rw [Tunables.torn_zones]; exact ZoneSettings.torn_mixOf isNew z _ _
  · exact oneOf_ite ReleaseTimes.window ..
  · exact oneOf_ite ReleaseTimes.countdown ..
  · exact oneOf_ite ReleaseTimes.pulse ..
  · exact oneOf_ite Coefficients.kT ..
  · exact oneOf_ite Coefficients.kH ..
  · exact oneOf_ite Coefficients.base ..
  · exact oneOf_ite TimerLengths.handover ..
  · exact oneOf_ite TimerLengths.release ..
  · exact oneOf_ite TimerLengths.openLimit ..

theorem mixBits_none {w : Nat} (old new : BitVec w) : mixBits (fun _ => false) old new = old := by
  apply BitVec.eq_of_getLsbD_eq
  intro i hi
  rw [mixBits_getLsbD _ old new ⟨i, hi⟩]; rfl

theorem mixBits_all {w : Nat} (old new : BitVec w) : mixBits (fun _ => true) old new = new := by
  apply BitVec.eq_of_getLsbD_eq
  intro i hi
  rw [mixBits_getLsbD _ old new ⟨i, hi⟩]; rfl

/-- A write cut before its first value leaves the old tunables. -/
theorem Tunables.torn_none (old new : Tunables) : old.torn (fun _ => false) new = old := by
  have hz : (PerZone.tabulate fun z => (old.zones.get z).torn (fun _ => false) z (new.zones.get z)) = old.zones :=
    PerZone.ext_get fun z => by rw [PerZone.get_tabulate]; rfl
  simp [Tunables.torn, hz, mixBits_none]

/-- A write cut after its last value leaves the new ones. -/
theorem Tunables.torn_all (old new : Tunables) : old.torn (fun _ => true) new = new := by
  have hz : (PerZone.tabulate fun z => (old.zones.get z).torn (fun _ => true) z (new.zones.get z)) = new.zones :=
    PerZone.ext_get fun z => by rw [PerZone.get_tabulate]; rfl
  simp [Tunables.torn, hz, mixBits_all]

/-! ### The part stops (R172, R187) -/

/-- A part that stops: its store write ends without the valid mark, its links hunt and wait, and all else stands. -/
theorem State.stop_eq (s : State) (x : Phase) : s.stop x =
    { s with
      phase := x
      store :=
        { s.store with
          stored := match s.store.writing with
            | some written => s.store.stored.torn (Config.tornTakesNew s.freeIndex) written
            | none => s.store.stored
          valid := s.store.valid && !s.storeBusy
          writing := none }
      freeIndex := if s.storeBusy then s.freeIndex + 1 else s.freeIndex
      fl := { s.fl with rx := .hunting, gapLeft := 0, request := .waiting, rateHeld := false }
      hl := { s.hl with rx := .hunting, gapLeft := 0, request := .waiting, rateHeld := false } } := by
  obtain ⟨_, _, _, ⟨stored, valid, bank, writing⟩⟩ := s
  cases writing <;> simp [State.stop, State.cutStoreWrite, State.cutLinks, State.storeBusy]

theorem execResetAssert_started {s : State} (h : s.started = true) : execResetAssert s = .next (s.stop .inReset) := by
  unfold State.started at h; unfold execResetAssert
  cases hp : s.phase <;> simp_all

theorem execResetAssert_stopped {s : State} (h : s.started = false) : execResetAssert s = .next s := by
  unfold State.started at h; unfold execResetAssert
  cases hp : s.phase <;> simp_all

/-- The events that occur while the part does not run: those of reset, power and start-up, and the clock's second. -/
def Instr.occursStopped : Instr → Bool
  | .resetAssert | .powerLoss | .startUp | .startUpComplete _ _ _ | .backupBelowRetention | .siteClockSecond => true
  | _ => false

/-- Every other event does not occur in a part that does not run (R172, R190). -/
theorem exec_event_notRunning {s : State} {c : Instr} (hp : s.phase ≠ .running) (hc : requestOn c = none)
    (ho : Instr.occursStopped c = false) : exec c s = .next s := by
  cases c
  case unknownRequest | frameDiscard | responseSent | handoverTimerExpiry | releaseTimerExpiry | hatchOpenLimitReached |
      verificationWindowExpiry | countdownExpiry | releasePulseEnd | storeWriteComplete | inputLineChange |
      characterReceived | frameGapTimeout | climateSample | loopSample | elapsedMinuteTick | elapsedHourTick =>
    exact if_neg hp
  case resetAssert | powerLoss | startUp | startUpComplete | backupBelowRetention | siteClockSecond => cases ho
  all_goals cases hc

/-- Settles O50, from what a stop leaves, what a cut write mixes, and the events that a stopped part does not take. -/
theorem resetAndPowerLossStopThePart : Obligations.ResetAndPowerLossStopThePart := by
  refine ⟨fun s x => ⟨fun h hx => ?_, fun h hx => ?_⟩, Tunables.torn_mixOf,
    fun old new => ⟨old.torn_none new, old.torn_all new⟩, fun s => execResetAssert_stopped,
    fun s hu => ⟨if_pos hu, if_pos hu⟩, fun s hu => if_neg hu, fun s c hp hc => ?_,
    fun s hp => ⟨by simp [State.attentionLow, hp], fun n => by simp [State.outputHigh, hp]⟩⟩
  · subst hx; exact (execResetAssert_started h).trans (congrArg Outcome.next (s.stop_eq _))
  · subst hx; exact (if_neg h).trans (congrArg Outcome.next (s.stop_eq _))
  · split
    case h_7 => exact exec_event_notRunning hp hc (by cases c <;> simp_all [Instr.occursStopped])
    all_goals trivial

/-! ### Start-up (R28, R188 to R190) -/

/-- The bank record that start-up reads: a pending bank write is made first, unless retained memory was lost (R188). -/
theorem State.bankRecordAtStart_eq (s : State) (lost : Bool) : s.bankRecordAtStart lost =
    if lost = false ∧ s.ret.pendingBank.isSome then s.ret.pendingBank else s.store.bank := by
  unfold State.bankRecordAtStart
  cases lost <;> cases s.ret.pendingBank <;> simp

theorem Bank.ofRecord_eq (b : Option BankRecord) :
    Bank.ofRecord b = if b = some .committed ∨ b = some .spent then .spent else .ready := by
  rcases b with _ | _ | _ | _ <;> rfl

/-- A STAGED record without a home slot, which no run reaches, becomes SHELVED without marks (log entry 27). -/
theorem State.reverted_of_homeless (s : State) {r : Record} (hs : r.state = .staged) (hh : r.home = none) :
    s.reverted r = { r with state := .shelved } := by simp [State.reverted, hs, hh]

theorem State.rebuilt_fire (s : State) (lost : Bool) (z : Zone) : (s.rebuilt lost).fire z = .quiet := by
  simp [State.fire, State.rebuilt, ZoneState.atStart]

/-- Settles O51: the rebuilt part field by field, then the sweep of its records under QUIET fire states. -/
theorem startUpRebuildsThePart : Obligations.StartUpRebuildsThePart := by
  refine ⟨rfl, rfl, fun _ => rfl, fun s lost => ⟨?_, ?_⟩, fun s => ⟨fun h => ?_, fun h => ?_, fun h => ?_⟩⟩
  · dsimp only
    rw [← s.bankRecordAtStart_eq, ← Bank.ofRecord_eq]
    rfl
  · have records : (s.startUp lost).ret.records = (s.ret.atStart lost).records.map (s.rebuilt lost).reverted := rfl
    rw [records]
    have kept : s.ret.atStart lost = { (if lost then Retained.afterLoss else s.ret) with pendingBank := none } := rfl
    refine (congrArg _ (congrArg Retained.records kept)).trans (List.map_congr_left fun r _ => ?_)
    obtain ⟨_, _, state, home, _, _⟩ := r
    cases state with
    | staged =>
      cases home with
      | none => exact State.reverted_of_homeless _ rfl rfl
      | some h =>
        rw [State.reverted_of_staged _ rfl rfl, State.rebuilt_fire]
        cases lost <;> simp [State.inExcursion, State.climate, State.zoneOfSlot, State.rebuilt, Retained.atStart]
    | _ => exact State.reverted_of_not_staged _ nofun
  · show execStartUp s = _
    rw [execStartUp, h]
  · show execStartUp s = _
    rw [execStartUp, h]
  · show execStartUp s = _
    unfold State.started at h; unfold execStartUp
    cases hp : s.phase <;> simp_all

end Sys2Proof.Machine
end

section
/-! The law of the zones and the settings (R39, R101, R103, R129, R130, R133, R135, R145, R153, R187), each part of it said
by itself: what a climate account, a sensor, a loop, a fire state and a group of tunables are held to, and what keeps it. -/

namespace Sys2Proof.Machine

open Host

/-! ### The ranges of the tunables -/

theorem within_iff {lo hi n : Int} : within lo hi n = true ↔ lo ≤ n ∧ n ≤ hi := by simp [within]

/-- The climate settings of a zone are in the ranges of section 5.5, EXCURSION's threshold above ALERT's. -/
def ClimateSettings.inRange (c : ClimateSettings) : Prop :=
  (1 ≤ c.period ∧ c.period ≤ 60) ∧ (1 ≤ c.staleLimit ∧ c.staleLimit ≤ 20) ∧ (0 ≤ c.rhTarget ∧ c.rhTarget ≤ 1000) ∧
  (0 ≤ c.rhBand ∧ c.rhBand ≤ 200) ∧ (-100 ≤ c.tTarget ∧ c.tTarget ≤ 400) ∧ (0 ≤ c.tBand ∧ c.tBand ≤ 100) ∧
  c.recovery ≤ 255 ∧ (1 ≤ c.alert ∧ c.alert ≤ 16777214) ∧ c.alert < c.exposure ∧ c.exposure ≤ 16777215

/-- The trims of a channel are in the range of section 5.5. -/
def Trims.inRange (x : Trims) : Prop := (-50 ≤ x.t ∧ x.t ≤ 50) ∧ -50 ≤ x.h ∧ x.h ≤ 50

/-- The thresholds of a loop are in their order (section 7.5). -/
def LoopSettings.inRange (c : LoopSettings) : Prop :=
  c.openMax < c.normalMax ∧ c.normalMax < c.alarmMax ∧ c.alarmMax ≤ 1023

/-- The heat thresholds of a zone are in the ranges of section 8.6. -/
def ReleaseSettings.inRange (c : ReleaseSettings) : Prop :=
  (200 ≤ c.heatAbs ∧ c.heatAbs ≤ 1000) ∧ 5 ≤ c.heatRise ∧ c.heatRise ≤ 200

/-- The window, the countdown and the pulse are in the ranges of section 8.6. -/
def ReleaseTimes.inRange (x : ReleaseTimes) : Prop :=
  (10 ≤ x.window ∧ x.window ≤ 120) ∧ (10 ≤ x.countdown ∧ x.countdown ≤ 60) ∧ 1 ≤ x.pulse ∧ x.pulse ≤ 10

/-- The conditioning coefficients are in their ranges (R116). -/
def Coefficients.inRange (x : Coefficients) : Prop := x.kT ≤ 60 ∧ x.kH ≤ 30 ∧ x.base ≤ 120

/-- HU's timer lengths are in their ranges (R75). -/
def TimerLengths.inRange (x : TimerLengths) : Prop :=
  (30 ≤ x.handover ∧ x.handover ≤ 900) ∧ (10 ≤ x.release ∧ x.release ≤ 600) ∧ 10 ≤ x.openLimit ∧ x.openLimit ≤ 300

theorem ZoneSettings.wf_iff (c : ZoneSettings) : c.wf = true ↔
    c.climate.inRange ∧ c.trims.inRange ∧ c.loop.inRange ∧ c.release.inRange := by
  simp only [ZoneSettings.wf, Bool.and_eq_true, within_iff, decide_eq_true_eq, ClimateSettings.inRange, Trims.inRange,
    LoopSettings.inRange, ReleaseSettings.inRange]
  omega

theorem Tunables.wf_iff (x : Tunables) : x.wf = true ↔
    (∀ z, (x.zones.get z).wf = true) ∧ x.release.inRange ∧ x.conditioning.inRange ∧ x.timers.inRange ∧
      ∀ c : Fin 8, x.classLimits[c] ≤ 65535 := by
  have hz : (Zone.all.all fun z => (x.zones.get z).wf) = true ↔ ∀ z, (x.zones.get z).wf = true := by
    simp only [List.all_eq_true]; exact ⟨fun h z => h z z.mem_all, fun h z _ => h z⟩
  have hl : (x.classLimits.all fun n => decide (n ≤ 65535)) = true ↔ ∀ c : Fin 8, x.classLimits[c] ≤ 65535 := by
    simp only [Vector.all_eq_true, decide_eq_true_eq]; exact ⟨fun h c => h c c.isLt, fun h i hi => h ⟨i, hi⟩⟩
  simp only [Tunables.wf, Bool.and_eq_true, hz, hl, within_iff, ReleaseTimes.inRange, Coefficients.inRange,
    TimerLengths.inRange]
  constructor
  · rintro ⟨⟨⟨⟨⟨⟨⟨⟨⟨⟨zones, _⟩, _⟩, _⟩, _⟩, _⟩, _⟩, _⟩, _⟩, _⟩, limits⟩
    exact ⟨zones, by omega, by omega, by omega, limits⟩
  · rintro ⟨zones, release, conditioning, timers, limits⟩
    exact ⟨⟨⟨⟨⟨⟨⟨⟨⟨⟨zones, by omega⟩, by omega⟩, by omega⟩, by omega⟩, by omega⟩, by omega⟩, by omega⟩, by omega⟩, by omega⟩, limits⟩

theorem Tunables.factory_wf : Tunables.factory.wf = true := by
  refine (Tunables.wf_iff _).mpr ⟨fun z => ?_, ?_, ?_, ?_, fun c => ?_⟩
  · rw [Tunables.factory, PerZone.get_tabulate]; decide
  · simp [Tunables.factory, ReleaseTimes.inRange]
  · simp [Tunables.factory, Coefficients.inRange]
  · simp [Tunables.factory, TimerLengths.inRange]
  · simp [Tunables.factory]

/-! ### A dose and its climate state (R101, R103) -/

theorem ClimateAccount.wf_iff (a : ClimateAccount) :
    a.wf = true ↔ a.dose ≤ 16777215 ∧ (a.state = .excursion → 0 < a.dose) := by
  simp [ClimateAccount.wf, or_iff_not_imp_left]

theorem nextDose_le {c : ClimateSettings} {dose weight : Nat} (h : dose ≤ 16777215) : nextDose c dose weight ≤ 16777215 := by
  unfold nextDose doseCeiling; split <;> omega

/-- A zone is in EXCURSION after a sample only above dose 0: its threshold is above 0, and an EXCURSION ends at 0 (R103). -/
theorem nextClimate_excursion {c : ClimateSettings} (hc : c.inRange) {dose : Nat} {x : ClimateState}
    (h : nextClimate c dose x = .excursion) : 0 < dose := by
  obtain ⟨-, -, -, -, -, -, -, -, hexp, -⟩ := hc
  have hexp : ¬ c.exposure ≤ 0 := by omega
  refine Nat.pos_of_ne_zero fun h0 => ?_
  subst h0
  cases x <;> simp only [nextClimate, hexp, if_false, if_true] at h
  · split at h <;> cases h
  · split at h <;> cases h
  · cases h

/-! ### A sensor (R96, R98, R100) -/

/-- A reading in the converter's range (R96). -/
def Reading.inRange (r : Reading) : Prop := (-400 ≤ r.t ∧ r.t ≤ 1250) ∧ 0 ≤ r.rh ∧ r.rh ≤ 1000

theorem Sensor.wf_iff (x : Sensor) : x.wf = true ↔
    x.staleCount ≤ 255 ∧ x.weight ≤ 3700 ∧ (∀ r, x.reading = some r → r.inRange) ∧
      (x.status = .fresh → x.reading.isSome = true ∧ x.staleCount = 0) ∧
      (x.status = .stale → x.reading.isSome = true ∧ 0 < x.staleCount) := by
  obtain ⟨reading, status, _, _, _, _⟩ := x
  cases reading <;> cases status <;> simp [Sensor.wf, Reading.inRange, and_assoc]

theorem clampInt_mem {lo hi : Int} (h : lo ≤ hi) (n : Int) : lo ≤ clampInt lo hi n ∧ clampInt lo hi n ≤ hi := by
  rw [clampInt_eq h]; omega

theorem clampNat_mem {lo hi : Nat} (h : lo ≤ hi) (n : Nat) : lo ≤ clampNat lo hi n ∧ clampNat lo hi n ≤ hi := by
  rw [clampNat_eq h]; omega

/-- A converted reading is in the converter's range, whatever the counts and the trims (R96). -/
theorem converted_inRange (counts : RawCounts) (x : Trims) :
    Reading.inRange { t := convertT counts.t x.t, rh := convertH counts.h x.h } :=
  ⟨clampInt_mem (by decide) _, clampInt_mem (by decide) _⟩

/-- The humidity lies at most 1000 from its target and the temperature at most 1350 (R100). -/
theorem weightOf_le {c : ClimateSettings} (hc : c.inRange) {r : Reading} (hr : r.inRange) : weightOf c r ≤ 3700 := by
  obtain ⟨-, -, hrh, hrhBand, ht, htBand, -⟩ := hc
  obtain ⟨hrt, hrrh⟩ := hr
  unfold weightOf excess
  omega

/-- The sensor of a good sample (R97). -/
theorem Sensor.good_wf {x : Sensor} {c : ClimateSettings} (hc : c.inRange) {r : Reading} (hr : r.inRange) :
    ({ x with reading := some r, status := .fresh, staleCount := 0, lastGood := true, weight := weightOf c r } : Sensor).wf =
      true :=
  (Sensor.wf_iff _).mpr ⟨by simp, weightOf_le hc hr, by simpa using hr, by simp, by simp⟩

/-- The sensor after a fault holds its reading, and is STALE only with one (R98). -/
theorem Sensor.fault_wf {x : Sensor} (h : x.wf = true) (limit : Nat) :
    ({ x with
      lastGood := false
      staleCount := min 255 (x.staleCount + 1)
      status := faultStatus x.reading.isSome (min 255 (x.staleCount + 1)) limit } : Sensor).wf = true := by
  obtain ⟨-, hweight, hreading, -⟩ := x.wf_iff.mp h
  refine (Sensor.wf_iff _).mpr ⟨min_le_left .., hweight, hreading, fun hs => ?_, fun hs => ?_⟩
  all_goals
    simp only [faultStatus] at hs
    split at hs
  · cases hs
  · cases hs
  · next hheld => exact ⟨by simp_all, by simp⟩
  · cases hs

/-- The latest raw counts and "last sample good" are free (R94, R110). -/
theorem Sensor.wf_congr {x y : Sensor} (h : x.wf = true) (hr : y.reading = x.reading) (hs : y.status = x.status)
    (hc : y.staleCount = x.staleCount) (hw : y.weight = x.weight) : y.wf = true := by
  rw [Sensor.wf_iff] at h ⊢; rwa [hr, hs, hc, hw]

/-! ### A loop (R129 to R136) -/

theorem Loop.wf_iff (l : Loop) (policy : Policy) : l.wf policy = true ↔
    l.trouble ≤ 255 ∧ l.run ≤ 64 ∧ (l.state = .isolated → l.trouble = 255 ∨ l.trouble = 0) ∧
      (l.state ≠ .isolated → l.state = stateOfTrouble l.trouble ∧ l.run = 0 ∧ l.ready = false) ∧
      (l.ready = true → l.run = 64 ∧ policy = .onRequest) := by
  obtain ⟨state, _, _, ready, _, _⟩ := l
  by_cases h : state = .isolated <;> cases ready <;> simp [Loop.wf, h, and_assoc]

/-- No counter isolates a loop (R130). -/
theorem stateOfTrouble_ne_isolated (n : Nat) : stateOfTrouble n ≠ .isolated := by
  unfold stateOfTrouble; repeat' split
  all_goals nofun

theorem Loop.count_wf {l : Loop} {policy : Policy} (h : l.wf policy = true) (hs : l.state ≠ .isolated) {n : Nat}
    (hn : n ≤ 255) : (l.count n).loop.wf policy = true := by
  obtain ⟨-, hrun, -, hservice, -⟩ := (l.wf_iff policy).mp h
  obtain ⟨-, hrun0, hready⟩ := hservice hs
  exact (Loop.wf_iff _ _).mpr ⟨hn, hrun, fun h => absurd h (stateOfTrouble_ne_isolated n), fun _ => ⟨rfl, hrun0, hready⟩,
    fun h => by simp [Loop.count, quietly, hready] at h⟩

/-- A loop in service counts on, or is ISOLATED with its counter at 255 (R129, R131). -/
theorem Loop.sampleInService_wf {l : Loop} {policy : Policy} (h : l.wf policy = true) (hs : l.state ≠ .isolated)
    (cls : LoopClass) : (l.sampleInService policy cls).loop.wf policy = true := by
  obtain ⟨htrouble, -, -, hservice, -⟩ := (l.wf_iff policy).mp h
  obtain ⟨-, -, hready⟩ := hservice hs
  unfold Loop.sampleInService
  repeat' split
  · exact (Loop.wf_iff _ _).mpr ⟨le_rfl, by simp [quietly], fun _ => .inl rfl, fun h => absurd rfl h, fun h => by
      simp [quietly, hready] at h⟩
  · exact l.count_wf h hs (by omega)
  · exact l.count_wf h hs (by omega)
  · exact h

theorem Loop.returned_wf (l : Loop) (policy : Policy) : l.returned.wf policy = true :=
  (Loop.wf_iff _ _).mpr ⟨by simp [Loop.returned], by simp [Loop.returned], nofun, fun _ => ⟨rfl, rfl, rfl⟩, nofun⟩

/-- An ISOLATED loop lengthens its run or begins it again; recovery ready comes at a run of 64 under ON_REQUEST (R133,
R135). -/
theorem Loop.sampleIsolated_wf {l : Loop} {policy : Policy} (h : l.wf policy = true) (hs : l.state = .isolated)
    (cls : LoopClass) : (l.sampleIsolated policy cls).loop.wf policy = true := by
  obtain ⟨htrouble, hrun, hisolated, -, hready⟩ := (l.wf_iff policy).mp h
  have standing {run : Nat} {ready : Bool} (hr : run ≤ 64) (hy : ready = true → run = 64 ∧ policy = .onRequest) :
      ({ l with run := run, ready := ready } : Loop).wf policy = true :=
    (Loop.wf_iff _ _).mpr ⟨htrouble, hr, hisolated, fun h => absurd hs h, hy⟩
  unfold Loop.sampleIsolated
  split
  · extract_lets run
    have hr : run ≤ 64 := min_le_left ..
    split
    · next hfull =>
      cases policy with
      | auto => exact Loop.returned_wf _ _
      | freezeAtRecovery => exact Loop.returned_wf _ _
      | onRequest => exact standing hr fun _ => ⟨hfull, rfl⟩
      | freezeAtIsolate => exact standing hr fun h => ⟨hfull, (hready h).2⟩
    · next hpart => exact standing hr fun h => absurd (hready h).1 (by omega)
  · exact standing (by omega) nofun

theorem Loop.sample_wf {l : Loop} {c : LoopSettings} (h : l.wf c.policy = true) (value : Nat) :
    (l.sample c value).loop.wf c.policy = true := by
  unfold Loop.sample
  extract_lets cls l'
  have h' : l'.wf c.policy = true := h
  split
  · next hs => exact l'.sampleIsolated_wf h' hs cls
  · next hs => exact l'.sampleInService_wf h' hs cls

/-- A loop whose zone enters OFFLINE is SOUND, or stays ISOLATED with its counter cleared (R42). -/
theorem Loop.clearedOffline_wf (l : Loop) (policy : Policy) : l.clearedOffline.wf policy = true := by
  by_cases h : l.state = .isolated <;>
    simp [Loop.wf_iff, Loop.clearedOffline, h, stateOfTrouble]

/-- The fault flags are free (R138), and a policy other than ON_REQUEST has recovery ready removed (R141). -/
theorem Loop.setPolicy_wf {l : Loop} {old : Policy} (h : l.wf old = true) (policy : Policy) :
    ({ l with ready := l.ready && decide (policy = .onRequest) } : Loop).wf policy = true := by
  obtain ⟨htrouble, hrun, hisolated, hservice, hready⟩ := (l.wf_iff old).mp h
  exact (Loop.wf_iff _ _).mpr ⟨htrouble, hrun, hisolated,
    fun h => ⟨(hservice h).1, (hservice h).2.1, by simp [(hservice h).2.2]⟩, fun h => by
      simp only [Bool.and_eq_true, decide_eq_true_eq] at h; exact ⟨(hready h.1).1, h.2⟩⟩

/-! ### A fire state (R39, R145, R153) -/

theorem FireState.wf_offline {f : FireState} {a : Bool} (h : f.wf .offline a = true) (b : Bool) : f.wf .offline b = true := by
  cases f <;> simp_all [FireState.wf]

/-- A change of mode keeps a fire state within its rules unless it takes a COUNTDOWN to OFFLINE (R39, R41). -/
theorem FireState.wf_mode {f : FireState} {m : ZoneMode} {a : Bool} (h : f.wf m a = true) {m' : ZoneMode}
    (hm : m' = .offline → f.isCountdown = false) : f.wf m' a = true := by
  cases f <;> simp_all [FireState.wf, FireState.isCountdown]

/-- A freeze brings no zone to OFFLINE (R45). -/
theorem FireState.wf_frozenBy {f : FireState} {m : ZoneMode} {a : Bool} (h : f.wf m a = true) :
    f.wf m.frozenBy a = true := by
  cases m <;> cases f <;> simp_all [FireState.wf, ZoneMode.frozenBy]

/-- A countdown that the abort has touched is at its full length, held while the abort is asserted (R153). -/
theorem FireState.afterAbort_wf {f : FireState} {m : ZoneMode} {a : Bool} (h : f.wf m a = true) (asserted : Bool) {full : Nat}
    (hfull : full ≤ 60000) : (f.afterAbort asserted full).wf m asserted = true := by
  cases f <;> simp_all [FireState.wf, FireState.afterAbort]

theorem FireState.pass_wf {f : FireState} {m : ZoneMode} {a : Bool} (h : f.wf m a = true) : f.pass.wf m a = true := by
  cases f with
  | prealarm left => simp_all [FireState.wf, FireState.pass]; omega
  | countdown left held => cases held <;> simp_all [FireState.wf, FireState.pass]; omega
  | _ => exact h


end Sys2Proof.Machine
end

section
/-! The law of the zones and the settings of the whole part: what an update must show to keep it, and what the law reads of
the part, so that whatever leaves this alone keeps the law. -/

namespace Sys2Proof.Machine

open Host

/-! ### The law -/

/-- A zone's live state under its loop's policy and the abort input: its sensor, its loop and its fire state are each within
their rules. -/
structure ZoneState.Lawful (v : ZoneState) (policy : Policy) (aborted : Bool) : Prop where
  sensor : v.sensor.wf = true
  loop : v.loop.wf policy = true
  fire : v.fire.wf v.mode aborted = true

theorem ZoneState.atStart_lawful (m : ZoneMode) (policy : Policy) (aborted : Bool) :
    (ZoneState.atStart m).Lawful policy aborted :=
  { sensor := rfl, loop := (Loop.wf_iff _ _).mpr (by simp [ZoneState.atStart, Loop.atStart, stateOfTrouble]), fire := rfl }

/-- Every zone and every setting is within its rules. -/
structure State.ZoneLaw (s : State) : Prop where
  accounts : ∀ z, (s.ret.climate.get z).wf = true
  zones : ∀ z, (s.zones.get z).Lawful (s.settings z).loop.policy s.abortAsserted
  live : s.live.wf = true
  stored : s.store.valid = true → s.store.stored.wf = true ∧ s.store.writing = none
  writing : ∀ w, s.store.writing = some w → w = s.live ∧ s.phase = .running
  clock : s.ret.clock ≤ 4294967295

theorem State.Inv.zoneLaw {s : State} (h : s.Inv) : s.ZoneLaw :=
  let ⟨live, stored, writing, clock⟩ := h.settings
  { accounts := fun z => (h.zones z z.mem_all).1
    zones := fun z => let ⟨_, sensor, loop, fire⟩ := h.zones z z.mem_all; { sensor, loop, fire }
    live, stored, clock
    writing := fun w hw => writing w (by simp [hw]) }

theorem State.ZoneLaw.zonesWf {s : State} (h : s.ZoneLaw) : s.zonesWf := fun z _ =>
  ⟨h.accounts z, (h.zones z).sensor, (h.zones z).loop, (h.zones z).fire⟩

theorem State.ZoneLaw.settingsWf {s : State} (h : s.ZoneLaw) : s.settingsWf :=
  ⟨h.live, h.stored, fun w hw => h.writing w (by simpa using hw), h.clock⟩

theorem State.ZoneLaw.settings {s : State} (h : s.ZoneLaw) (z : Zone) : (s.settings z).wf = true :=
  ((Tunables.wf_iff _).mp h.live).1 z

theorem State.ZoneLaw.climateInRange {s : State} (h : s.ZoneLaw) (z : Zone) : (s.settings z).climate.inRange :=
  ((ZoneSettings.wf_iff _).mp (h.settings z)).1

theorem State.ZoneLaw.times {s : State} (h : s.ZoneLaw) : s.live.release.inRange :=
  ((Tunables.wf_iff _).mp h.live).2.1

/-! ### What the law reads -/

/-- What the law of zones and settings reads of the part. -/
structure Plant where
  phase : Phase
  accounts : PerZone ClimateAccount
  clock : Nat
  stored : Tunables
  valid : Bool
  writing : Option Tunables
  live : Tunables
  zones : PerZone ZoneState
  levels : BitVec 12

/-- The part as the law of zones and settings reads it. -/
def State.plant (s : State) : Plant :=
  { phase := s.phase, accounts := s.ret.climate, clock := s.ret.clock, stored := s.store.stored, valid := s.store.valid
    writing := s.store.writing, live := s.live, zones := s.zones, levels := s.levels }

/-- The abort input follows the levels and the functions of the input lines (R153). -/
theorem State.abortAsserted_congr {s t : State} (hl : t.levels = s.levels) (hi : t.live.inputs = s.live.inputs) :
    t.abortAsserted = s.abortAsserted := by
  rw [Bool.eq_iff_iff, State.abortAsserted, State.abortAsserted, State.anyAsserted_iff, State.anyAsserted_iff, hl, hi]

/-- A line whose function is not ABORT does not move the abort input (R153). -/
theorem State.setLevel_abortAsserted {s : State} {n : Fin 12} (h : s.inputFunction n ≠ .abort) (level : Bool) :
    (s.setLevel n level).abortAsserted = s.abortAsserted := by
  rw [Bool.eq_iff_iff, State.abortAsserted, State.abortAsserted, State.anyAsserted_iff, State.anyAsserted_iff]
  refine exists_congr fun k => and_congr_right fun hk => ?_
  have hne : k ≠ n := fun e => h (e ▸ hk)
  simp only [State.setLevel, setLevelBit_getLsbD, if_neg hne]

/-- Two parts that the law reads as one satisfy it together. -/
theorem State.ZoneLaw.of_plant {s t : State} (hs : s.ZoneLaw) (h : t.plant = s.plant) : t.ZoneLaw := by
  obtain ⟨phase, accounts, clock, stored, valid, writing, live, zones, levels⟩ := Plant.mk.inj h
  have aborted := State.abortAsserted_congr levels (congrArg Tunables.inputs live)
  exact
    { accounts := accounts ▸ hs.accounts
      zones := fun z => by rw [zones, aborted, State.settings, live]; exact hs.zones z
      live := live ▸ hs.live
      stored := by rw [valid, stored, writing]; exact hs.stored
      writing := by rw [writing, live, phase]; exact hs.writing
      clock := clock ▸ hs.clock }

@[simp] theorem State.raise_plant (s : State) (f : EventFlag) : (s.raise f).plant = s.plant := rfl
@[simp] theorem State.raiseIf_plant (s : State) (c : Bool) (f : EventFlag) : (s.raiseIf c f).plant = s.plant := by
  cases c <;> rfl
@[simp] theorem State.setRecords_plant (s : State) (rs : List Record) : (s.setRecords rs).plant = s.plant := rfl
@[simp] theorem State.modifyRecord_plant (s : State) (l : Label) (f : Record → Record) :
    (s.modifyRecord l f).plant = s.plant := rfl
@[simp] theorem State.setCourier_plant (s : State) (e : Fin 16) (c : Option Courier) : (s.setCourier e c).plant = s.plant := rfl
@[simp] theorem State.setLink_plant (s : State) (k : LinkId) (l : Link) : (s.setLink k l).plant = s.plant := by
  cases k <;> rfl
@[simp] theorem State.settleHatchRate_plant (s : State) : s.settleHatchRate.plant = s.plant := by
  unfold State.settleHatchRate; split <;> rfl
@[simp] theorem State.discardFrame_plant (s : State) (k : LinkId) : (s.discardFrame k).plant = s.plant := by
  cases k <;> simp [State.discardFrame]
@[simp] theorem State.answered_plant (s : State) (k : LinkId) (code : Byte) (x : Status) (results : List Byte) :
    (s.answered k code x results).plant = s.plant := by
  simp [State.plant]
@[simp] theorem State.restartHandover_plant (s : State) : s.restartHandover.plant = s.plant := rfl
@[simp] theorem State.writeBank_plant (s : State) (b : BankRecord) : (s.writeBank b).plant = s.plant := by
  unfold State.writeBank; split <;> rfl
@[simp] theorem State.exposeZone_plant (s : State) (z : Zone) : (s.exposeZone z).plant = s.plant := rfl
@[simp] theorem State.agentZone_plant (s : State) (z : Zone) : (s.agentZone z).plant = s.plant := rfl
@[simp] theorem State.overdueCheck_plant (s : State) : s.overdueCheck.plant = s.plant := by simp [State.overdueCheck]
@[simp] theorem State.closeWith_plant (s : State) (m : Manifest) (cause : Cause) : (s.closeWith m cause).plant = s.plant := rfl
@[simp] theorem State.abandonForFire_plant (s : State) : s.abandonForFire.plant = s.plant := by
  unfold State.abandonForFire; repeat' split
  all_goals rfl
@[simp] theorem followDoor_plant (s t : State) : (followDoor s t).plant = t.plant := by
  unfold followDoor; repeat' split
  all_goals rfl

/-! ### Updates of what the law reads -/

namespace State.ZoneLaw

/-- One zone's live state is replaced by a lawful one. -/
theorem setZone {s : State} (hs : s.ZoneLaw) (z : Zone) {v : ZoneState}
    (hv : v.Lawful (s.settings z).loop.policy s.abortAsserted) : (s.setZone z v).ZoneLaw :=
  { hs with
    zones := fun w => by
      rw [State.setZone_zones, PerZone.get_set]
      split
      · next h => subst h; exact hv
      · exact hs.zones w }

theorem setFire {s : State} (hs : s.ZoneLaw) (z : Zone) {f : FireState} (hf : f.wf (s.mode z) s.abortAsserted = true) :
    (s.setFire z f).ZoneLaw := hs.setZone z { hs.zones z with fire := hf }

theorem setMode {s : State} (hs : s.ZoneLaw) (z : Zone) {m : ZoneMode} (hf : (s.fire z).wf m s.abortAsserted = true) :
    (s.setMode z m).ZoneLaw := hs.setZone z { hs.zones z with fire := hf }

theorem setLoop {s : State} (hs : s.ZoneLaw) (z : Zone) {l : Loop} (hl : l.wf (s.settings z).loop.policy = true) :
    (s.setLoop z l).ZoneLaw := hs.setZone z { hs.zones z with loop := hl }

theorem setAccount {s : State} (hs : s.ZoneLaw) (z : Zone) {a : ClimateAccount} (ha : a.wf = true) :
    (s.setAccount z a).ZoneLaw :=
  { hs with
    accounts := fun w => by
      rw [State.setAccount_ret_climate, PerZone.get_set]
      split
      · exact ha
      · exact hs.accounts w }

/-- New live tunables in range, set while no store write is in progress, under which the zones are lawful (R187). -/
theorem setLive_of {s : State} (hs : s.ZoneLaw) (hb : s.storeBusy = false) {x : Tunables} (hx : x.wf = true)
    (hz : ∀ z, (s.zones.get z).Lawful (x.zones.get z).loop.policy (State.abortAsserted { s with live := x })) :
    State.ZoneLaw { s with live := x } :=
  { hs with
    zones := hz, live := hx
    writing := fun w hw => by simp only at hw; simp [State.storeBusy, hw] at hb }

/-- New live tunables that leave the policies and the functions of the inputs. -/
theorem setLive {s : State} (hs : s.ZoneLaw) (hb : s.storeBusy = false) {x : Tunables} (hx : x.wf = true)
    (hp : x.zones = s.live.zones) (hi : x.inputs = s.live.inputs) : State.ZoneLaw { s with live := x } :=
  hs.setLive_of hb hx fun z => by
    rw [State.abortAsserted_congr (s := s) (t := { s with live := x }) rfl hi, hp]; exact hs.zones z

end State.ZoneLaw

theorem Tunables.setZones_wf {x : Tunables} (h : x.wf = true) (z : Zone) {c : ZoneSettings} (hc : c.wf = true) :
    ({ x with zones := x.zones.set z c } : Tunables).wf = true := by
  obtain ⟨zones, rest⟩ := x.wf_iff.mp h
  refine (Tunables.wf_iff _).mpr ⟨fun w => ?_, rest⟩
  rw [PerZone.get_set]
  split
  · exact hc
  · exact zones w

namespace State.ZoneLaw

/-- New settings of a zone, together with a live state of it that is lawful under them. -/
theorem setSettings_setZone {s : State} (hs : s.ZoneLaw) (hb : s.storeBusy = false) (z : Zone) {c : ZoneSettings}
    (hc : c.wf = true) {v : ZoneState} (hv : v.Lawful c.loop.policy s.abortAsserted) :
    ((s.setSettings z c).setZone z v).ZoneLaw := by
  have aborted : ((s.setSettings z c).setZone z v).abortAsserted = s.abortAsserted := State.abortAsserted_congr rfl rfl
  exact
    { hs with
      live := Tunables.setZones_wf hs.live z hc
      writing := fun w hw => by simp only [State.setZone_store, State.setSettings_store] at hw; simp [State.storeBusy, hw] at hb
      zones := fun w => by
        have settings : ((s.setSettings z c).setZone z v).settings w = if w = z then c else s.settings w :=
          s.setSettings_settings z w c
        rw [aborted, settings, State.setZone_zones, PerZone.get_set]
        split
        · exact hv
        · exact hs.zones w }

/-- New settings of a zone that leave its loop's policy. -/
theorem setSettings {s : State} (hs : s.ZoneLaw) (hb : s.storeBusy = false) (z : Zone) {c : ZoneSettings} (hc : c.wf = true)
    (hp : c.loop.policy = (s.settings z).loop.policy) : (s.setSettings z c).ZoneLaw := by
  have h := hs.setSettings_setZone hb z hc (v := s.zones.get z) (by rw [hp]; exact hs.zones z)
  exact h.of_plant (by simp [State.plant, PerZone.set_get_self])

/-- The levels of the inputs change, and the abort input does not. -/
theorem setLevels {s : State} (hs : s.ZoneLaw) {levels : BitVec 12}
    (ha : State.abortAsserted { s with levels := levels } = s.abortAsserted) : State.ZoneLaw { s with levels := levels } :=
  { hs with zones := fun z => by rw [ha]; exact hs.zones z }

end State.ZoneLaw

end Sys2Proof.Machine
end

section
/-! The commands that touch neither the zones nor the settings: the requests of the custody table, the couriers, the manifest
and the hatch, the reports, what the links do, and HU's and the bank's expiries. Each leaves what the law reads. -/

namespace Sys2Proof.Machine

open Host

/-! ### The custody table, the couriers and the bank -/

theorem changeRecord_plant (label : Label) (f : Record → Record) (s : State) (r : Record) :
    (changeRecord label f s r).state.plant = s.plant := rfl

theorem ownEnroll_plant (label : Label) (cls : Byte) (slot : BitVec 16) (s : State) :
    (ownEnroll label cls slot s).state.plant = s.plant := by
  unfold ownEnroll; repeat' split
  all_goals rfl

theorem ownLookup_plant (label : Label) (s : State) : (ownLookup label s).state.plant = s.plant :=
  withRecord_keeps (P := fun t => t.plant = s.plant) rfl fun _ _ => rfl

theorem ownSlotQuery_plant (slot : BitVec 16) (s : State) : (ownSlotQuery slot s).state.plant = s.plant := by
  unfold ownSlotQuery; repeat' split
  all_goals rfl

theorem ownNextLabel_plant (label : Label) (s : State) : (ownNextLabel label s).state.plant = s.plant := by
  unfold ownNextLabel; repeat' split
  all_goals rfl

theorem ownPlace_plant (label : Label) (slot : BitVec 16) (s : State) : (ownPlace label slot s).state.plant = s.plant := by
  unfold ownPlace; split
  · rfl
  · refine withRecord_keeps (P := fun t => t.plant = s.plant) rfl fun r _ => ?_
    repeat' split
    all_goals rfl

theorem ownRelocate_plant (label : Label) (slot : BitVec 16) (s : State) :
    (ownRelocate label slot s).state.plant = s.plant := by
  unfold ownRelocate; split
  · rfl
  · refine withRecord_keeps (P := fun t => t.plant = s.plant) rfl fun r _ => ?_
    repeat' split
    all_goals rfl

theorem ownUnbind_plant (label : Label) (s : State) : (ownUnbind label s).state.plant = s.plant :=
  withRecord_keeps (P := fun t => t.plant = s.plant) rfl fun r _ => by split <;> rfl

theorem ownRetire_plant (label : Label) (s : State) : (ownRetire label s).state.plant = s.plant :=
  withRecord_keeps (P := fun t => t.plant = s.plant) rfl fun r _ => by split <;> rfl

theorem ownClearMark_plant (label : Label) (mark : Byte) (s : State) : (ownClearMark label mark s).state.plant = s.plant := by
  unfold ownClearMark; split
  · rfl
  · exact withRecord_keeps (P := fun t => t.plant = s.plant) rfl fun r _ => by split <;> rfl

theorem ownSetClass_plant (label : Label) (cls : Byte) (s : State) : (ownSetClass label cls s).state.plant = s.plant := by
  unfold ownSetClass; split
  · rfl
  · exact withRecord_keeps (P := fun t => t.plant = s.plant) rfl fun _ _ => rfl

theorem ownExtendDue_plant (label : Label) (hours : BitVec 16) (s : State) :
    (ownExtendDue label hours s).state.plant = s.plant := by
  unfold ownExtendDue; split
  · rfl
  · refine withRecord_keeps (P := fun t => t.plant = s.plant) rfl fun r _ => ?_
    repeat' split
    all_goals rfl

theorem ownSetBoundary_plant (boundary value : Byte) (s : State) : (ownSetBoundary boundary value s).state.plant = s.plant := by
  unfold ownSetBoundary; dsimp only; repeat' split
  all_goals rfl

theorem ownEnrolCourier_plant (entry : Byte) (badge : BitVec 24) (code : AccessCode) (s : State) :
    (ownEnrolCourier entry badge code s).state.plant = s.plant := by
  unfold ownEnrolCourier; repeat' split
  all_goals rfl

theorem ownRevokeCourier_plant (entry : Byte) (s : State) : (ownRevokeCourier entry s).state.plant = s.plant := by
  unfold ownRevokeCourier; repeat' split
  all_goals rfl

theorem ownUnlockCourier_plant (entry : Byte) (s : State) : (ownUnlockCourier entry s).state.plant = s.plant := by
  unfold ownUnlockCourier; repeat' split
  all_goals rfl

theorem ownReadCourier_plant (entry : Byte) (s : State) : (ownReadCourier entry s).state.plant = s.plant := by
  unfold ownReadCourier; split <;> rfl

theorem ownReadZone_plant (zone : Byte) (s : State) : (ownReadZone zone s).state.plant = s.plant := by
  unfold ownReadZone; split <;> rfl

theorem ownBankReloaded_plant (s : State) : (ownBankReloaded s).state.plant = s.plant := by
  unfold ownBankReloaded; repeat' split
  · rfl
  · rfl
  · exact State.writeBank_plant _ _

/-! ### The manifest and the hatch -/

theorem ownOpenManifest_plant (direction courier : Byte) (consignment due : BitVec 16) (s : State) :
    (ownOpenManifest direction courier consignment due s).state.plant = s.plant := by
  unfold ownOpenManifest; repeat' split
  all_goals rfl

theorem ownAddItem_plant (label : Label) (s : State) : (ownAddItem label s).state.plant = s.plant := by
  unfold ownAddItem; repeat' split
  all_goals rfl

theorem ownDropItem_plant (label : Label) (s : State) : (ownDropItem label s).state.plant = s.plant := by
  unfold ownDropItem; repeat' split
  all_goals rfl

theorem ownOfferManifest_plant (s : State) : (ownOfferManifest s).state.plant = s.plant := by
  unfold ownOfferManifest; repeat' split
  all_goals rfl

theorem ownCancelManifest_plant (s : State) : (ownCancelManifest s).state.plant = s.plant := by
  unfold ownCancelManifest; repeat' split
  all_goals rfl

theorem ownReadManifest_plant (s : State) : (ownReadManifest s).state.plant = s.plant := by
  unfold ownReadManifest; split <;> rfl

theorem ownReleaseManifest_plant (s : State) : (ownReleaseManifest s).state.plant = s.plant := by
  unfold ownReleaseManifest; repeat' split
  all_goals rfl

theorem State.failedAttempt_plant (s : State) (e : Fin 16) (c : Courier) : (s.failedAttempt e c).plant = s.plant :=
  State.raiseIf_plant _ _ _

theorem ownIdentify_plant (badge : BitVec 24) (code : AccessCode) (s : State) :
    (ownIdentify badge code s).state.plant = s.plant := by
  have lapse : s.endLapse.plant = s.plant := by rw [s.endLapse_eq]; rfl
  rw [ownIdentify, ← lapse]
  generalize s.endLapse = t
  dsimp only
  repeat' split
  case h_2.isFalse.isTrue => exact State.failedAttempt_plant _ _ _
  all_goals rfl

theorem ownDeclare_plant (consignment : BitVec 16) (caseT caseH : Option (BitVec 16)) (s : State) :
    (ownDeclare consignment caseT caseH s).state.plant = s.plant := by
  refine whenIdentified_keeps (P := fun t => t.plant = s.plant) rfl fun e => ?_
  repeat' split
  all_goals rfl

theorem ownDeposit_plant (label : Label) (s : State) : (ownDeposit label s).state.plant = s.plant := by
  refine whenIdentified_keeps (P := fun t => t.plant = s.plant) rfl fun e => ?_
  repeat' split
  case h_2.isFalse.isFalse => exact State.raiseIf_plant _ _ _
  all_goals rfl

theorem ownChoose_plant (label : Label) (x : ItemState) (s : State) : (ownChoose label x s).state.plant = s.plant := by
  refine whenIdentified_keeps (P := fun t => t.plant = s.plant) rfl fun e => ?_
  repeat' split
  all_goals rfl

theorem ownView_plant (s : State) : (ownView s).state.plant = s.plant := by
  refine whenIdentified_keeps (P := fun t => t.plant = s.plant) rfl fun e => ?_
  split <;> rfl

theorem ownFinish_plant (s : State) : (ownFinish s).state.plant = s.plant := by
  refine whenIdentified_keeps (P := fun t => t.plant = s.plant) rfl fun e => ?_
  split <;> rfl

theorem ownLeave_plant (s : State) : (ownLeave s).state.plant = s.plant := by
  unfold ownLeave; repeat' split
  all_goals rfl

/-! ### The links -/

theorem State.frameCompletes_plant (s : State) (k : LinkId) (code : Byte) (ps : List Byte) :
    (s.frameCompletes k code ps).plant = s.plant := by
  unfold State.frameCompletes State.frameArrives State.linkAnswers
  repeat' split
  all_goals simp [State.plant]

theorem State.checkFrame_plant (s : State) (k : LinkId) (length : Nat) (taken : List Byte) :
    (s.checkFrame k length taken).plant = s.plant := by
  unfold State.checkFrame
  repeat' split
  · exact s.discardFrame_plant k
  · exact s.discardFrame_plant k
  · exact s.discardFrame_plant k
  · exact (State.frameCompletes_plant _ k _ _).trans (s.setLink_plant k _)

theorem State.takeCharacter_plant (s : State) (k : LinkId) (c : Byte) : (s.takeCharacter k c).plant = s.plant := by
  unfold State.takeCharacter
  repeat' split
  · exact s.setLink_plant k _
  · rfl
  · exact s.discardFrame_plant k
  · exact s.setLink_plant k _
  · exact s.checkFrame_plant k _ _
  · exact s.setLink_plant k _

theorem State.character_plant (s : State) (k : LinkId) (c : Byte) (ok : Bool) : (s.character k c ok).plant = s.plant := by
  unfold State.character
  repeat' split
  · rfl
  · exact s.takeCharacter_plant k c
  · exact s.discardFrame_plant k
  · rfl

theorem State.responseEnds_plant (s : State) (k : LinkId) : (s.responseEnds k).plant = s.plant := by
  unfold State.responseEnds
  split
  · exact s.setLink_plant k _
  · rfl

/-! ### Expiries and ticks -/

theorem State.handoverExpiry_plant (s : State) : s.handoverExpiry.plant = s.plant := by
  unfold State.handoverExpiry; repeat' split
  all_goals rfl

theorem State.releaseExpiry_plant (s : State) : s.releaseExpiry.plant = s.plant := by
  unfold State.releaseExpiry; repeat' split
  all_goals rfl

theorem State.openLimitReached_plant (s : State) : s.openLimitReached.plant = s.plant := by
  unfold State.openLimitReached; repeat' split
  all_goals rfl

theorem State.pulseEnd_plant (s : State) : s.pulseEnd.plant = s.plant := by
  unfold State.pulseEnd; split <;> rfl

theorem State.minuteTick_plant (s : State) : s.minuteTick.plant = s.plant := by
  unfold State.minuteTick; split
  · exact State.raiseIf_plant _ _ _
  · rfl

/-- The hour tick makes the overdue check while the clock is valid (R21). -/
theorem State.hourTick_plant (s : State) : (if s.ret.clockValid then s.overdueCheck else s).plant = s.plant := by
  split
  · exact s.overdueCheck_plant
  · rfl

end Sys2Proof.Machine
end

section
/-! What keeps the law of zones and settings by changing a zone or a setting: the requests that set them, the samples, the
fire sequence, the lines, the store and start-up. -/

namespace Sys2Proof.Machine

open Host

/-! ### What a request sets is in range (R75, R109, R110, R119, R164) -/

theorem clampedClimate_inRange {period staleLimit : Byte} {rhTarget : BitVec 16} {rhBand : Byte} {tTarget : BitVec 16}
    {tBand recovery : Byte} {alert exposure : BitVec 24} {c : ClimateSettings}
    (hc : c = clampedClimate period staleLimit rhTarget rhBand tTarget tBand recovery alert exposure)
    (h : c.alert < c.exposure) : c.inRange := by
  subst hc
  unfold ClimateSettings.inRange
  dsimp only [clampedClimate] at h ⊢
  exact ⟨clampNat_mem (by decide) _, clampNat_mem (by decide) _, clampInt_mem (by decide) _, clampInt_mem (by decide) _,
    clampInt_mem (by decide) _, clampInt_mem (by decide) _, (clampNat_mem (lo := 0) (by decide) _).2,
    clampNat_mem (by decide) _, h, (clampNat_mem (lo := 2) (by decide) _).2⟩

theorem clampedTrims_inRange (trimT trimH : Byte) : (clampedTrims trimT trimH).inRange :=
  ⟨clampInt_mem (by decide) _, clampInt_mem (by decide) _⟩

theorem clampedTimes_inRange (b0 b1 b2 : Byte) : (clampedTimes b0 b1 b2).inRange :=
  ⟨clampNat_mem (by decide) _, clampNat_mem (by decide) _, clampNat_mem (by decide) _⟩

theorem clampedRelease_inRange (enabled : Bool) (b1 b2 b3 : Byte) : (clampedRelease enabled b1 b2 b3).inRange :=
  ⟨clampInt_mem (by decide) _, clampInt_mem (by decide) _⟩

theorem clampedTimers_inRange (h r o : BitVec 16) : (clampedTimers h r o).inRange :=
  ⟨clampNat_mem (by decide) _, clampNat_mem (by decide) _, clampNat_mem (by decide) _⟩

namespace State.ZoneLaw

theorem raise {s : State} (hs : s.ZoneLaw) (f : EventFlag) : (s.raise f).ZoneLaw := hs.of_plant (s.raise_plant f)

theorem raiseIf {s : State} (hs : s.ZoneLaw) (c : Bool) (f : EventFlag) : (s.raiseIf c f).ZoneLaw :=
  hs.of_plant (s.raiseIf_plant c f)

/-! ### Requests on a zone (R41, R107, R109, R110, R136, R139, R140) -/

/-- A zone takes a mode; one in COUNTDOWN is not taken OFFLINE, and one that enters OFFLINE has its loop cleared (R39, R42). -/
theorem changeMode {s : State} (hs : s.ZoneLaw) (z : Zone) {m : ZoneMode}
    (hm : m = .offline → s.mode z ≠ .offline → (s.fire z).isCountdown = false) : (s.changeMode z m).ZoneLaw := by
  unfold State.changeMode
  split
  · exact hs
  · next hne =>
    refine hs.setZone z { sensor := (hs.zones z).sensor, loop := ?_, fire := FireState.wf_mode (hs.zones z).fire fun he => ?_ }
    · dsimp only
      split
      · exact Loop.clearedOffline_wf _ _
      · exact (hs.zones z).loop
    · exact hm he fun ho => hne (ho.trans he.symm)

theorem ownSetZoneMode {s : State} (hs : s.ZoneLaw) (zone mode : Byte) : (ownSetZoneMode zone mode s).state.ZoneLaw := by
  unfold Machine.ownSetZoneMode
  repeat' split
  · exact hs
  · next h => exact hs.changeMode _ fun he ho => by_contra fun hc => h ⟨he, by simpa using hc, ho⟩
  · exact hs

theorem ownResetDose {s : State} (hs : s.ZoneLaw) (zone : Byte) : (ownResetDose zone s).state.ZoneLaw := by
  unfold Machine.ownResetDose
  repeat' split
  · exact hs
  · exact hs
  · exact hs.setAccount _ (by decide)

theorem ownSetClimate {s : State} (hs : s.ZoneLaw) (zone : Byte) {c : ClimateSettings}
    (hc : c.alert < c.exposure → c.inRange) : (ownSetClimate zone c s).state.ZoneLaw := by
  unfold Machine.ownSetClimate
  repeat' split
  · exact hs
  · exact hs
  · exact hs
  · exact hs
  · next z _ horder _ hbusy =>
    obtain ⟨-, trims, loop, release⟩ := (ZoneSettings.wf_iff _).mp (hs.settings z)
    exact hs.setSettings_setZone (by simpa using hbusy) z (c := { s.settings z with climate := c })
      ((ZoneSettings.wf_iff _).mpr ⟨hc (by omega), trims, loop, release⟩) { hs.zones z with }

theorem ownSetTrim {s : State} (hs : s.ZoneLaw) (zone trimT trimH : Byte) : (ownSetTrim zone trimT trimH s).state.ZoneLaw := by
  unfold Machine.ownSetTrim
  repeat' split
  · exact hs
  · exact hs
  · exact hs
  · next z _ _ hbusy =>
    obtain ⟨climate, -, loop, release⟩ := (ZoneSettings.wf_iff _).mp (hs.settings z)
    exact hs.setSettings_setZone (by simpa using hbusy) z (c := { s.settings z with trims := clampedTrims trimT trimH })
      ((ZoneSettings.wf_iff _).mpr ⟨climate, clampedTrims_inRange trimT trimH, loop, release⟩)
      { hs.zones z with sensor := Sensor.wf_congr (hs.zones z).sensor rfl rfl rfl rfl }

theorem ownSetStartMode {s : State} (hs : s.ZoneLaw) (zone mode : Byte) : (ownSetStartMode zone mode s).state.ZoneLaw := by
  unfold Machine.ownSetStartMode
  repeat' split
  · exact hs
  · next z _ _ _ hbusy => exact hs.setSettings (by simpa using hbusy) z (hs.settings z) rfl
  · exact hs

theorem ownSetLoop {s : State} (hs : s.ZoneLaw) (loop : Byte) (openMax normalMax alarmMax : BitVec 16)
    (policy capture : Byte) : (ownSetLoop loop openMax normalMax alarmMax policy capture s).state.ZoneLaw := by
  unfold Machine.ownSetLoop
  repeat' split
  · exact hs
  · exact hs
  · exact hs
  · exact hs
  · next z p m _ _ _ hrange horder _ hbusy =>
    obtain ⟨climate, trims, -, release⟩ := (ZoneSettings.wf_iff _).mp (hs.settings z)
    let c : LoopSettings :=
      { openMax := openMax.toNat, normalMax := normalMax.toNat, alarmMax := alarmMax.toNat, policy := p, capture := m }
    have inRange : c.inRange := by simp only [LoopSettings.inRange, c]; omega
    exact hs.setSettings_setZone (by simpa using hbusy) z (c := { s.settings z with loop := c })
      ((ZoneSettings.wf_iff _).mpr ⟨climate, trims, inRange, release⟩)
      { hs.zones z with loop := Loop.setPolicy_wf (hs.zones z).loop p }
  · exact hs

theorem ownLoopReturn {s : State} (hs : s.ZoneLaw) (loop : Byte) : (ownLoopReturn loop s).state.ZoneLaw := by
  unfold Machine.ownLoopReturn
  dsimp only
  repeat' split
  · exact hs
  · exact hs
  · exact raiseIf (setLoop hs _ (Loop.returned_wf _ _)) _ _

theorem ownClearLoopFlags {s : State} (hs : s.ZoneLaw) (loop : Byte) (o h a : Bool) :
    (ownClearLoopFlags loop o h a s).state.ZoneLaw := by
  unfold Machine.ownClearLoopFlags
  split
  · exact hs
  · next z _ => exact hs.setLoop z (hs.zones z).loop

/-! ### The settings of no zone (R22, R75, R119, R164, R165, R180 to R184) -/

theorem ownSetConditioning {s : State} (hs : s.ZoneLaw) (kT kH base : Byte) :
    (ownSetConditioning kT kH base s).state.ZoneLaw := by
  unfold Machine.ownSetConditioning
  split
  · exact hs
  · next hbusy =>
    obtain ⟨zones, release, -, rest⟩ := s.live.wf_iff.mp hs.live
    have inRange : Coefficients.inRange
        { kT := clampNat 0 60 kT.toNat, kH := clampNat 0 30 kH.toNat, base := clampNat 0 120 base.toNat } := by
      simp [Coefficients.inRange, clampNat_eq]
    exact hs.setLive (by simpa using hbusy) ((Tunables.wf_iff _).mpr ⟨zones, release, inRange, rest⟩) rfl rfl

theorem ownSetTimers {s : State} (hs : s.ZoneLaw) (h r o : BitVec 16) : (ownSetTimers h r o s).state.ZoneLaw := by
  unfold Machine.ownSetTimers
  split
  · exact hs
  · next hbusy =>
    obtain ⟨zones, release, conditioning, -, limits⟩ := s.live.wf_iff.mp hs.live
    exact hs.setLive (by simpa using hbusy)
      ((Tunables.wf_iff _).mpr ⟨zones, release, conditioning, clampedTimers_inRange h r o, limits⟩) rfl rfl

theorem ownSetClassLimit {s : State} (hs : s.ZoneLaw) (cls : Byte) (limit : BitVec 16) :
    (ownSetClassLimit cls limit s).state.ZoneLaw := by
  unfold Machine.ownSetClassLimit
  repeat' split
  · exact hs
  · exact hs
  · next c _ hbusy =>
    obtain ⟨zones, release, conditioning, timers, limits⟩ := s.live.wf_iff.mp hs.live
    refine hs.setLive (by simpa using hbusy) ((Tunables.wf_iff _).mpr ⟨zones, release, conditioning, timers, fun d => ?_⟩)
      rfl rfl
    have := limits d
    have := limit.isLt
    simp only [Fin.getElem_fin, Vector.getElem_set]
    split <;> omega

theorem ownSetRelease {s : State} (hs : s.ZoneLaw) (scope b0 b1 b2 b3 : Byte) :
    (ownSetRelease scope b0 b1 b2 b3 s).state.ZoneLaw := by
  unfold Machine.ownSetRelease
  repeat' split
  · exact hs
  · exact hs
  · next hbusy =>
    obtain ⟨zones, -, rest⟩ := s.live.wf_iff.mp hs.live
    exact hs.setLive (by simpa using hbusy) ((Tunables.wf_iff _).mpr ⟨zones, clampedTimes_inRange b0 b1 b2, rest⟩) rfl rfl
  · exact hs
  · exact hs
  · exact hs
  · exact hs
  · next z _ _ _ hbusy =>
    obtain ⟨climate, trims, loop, -⟩ := (ZoneSettings.wf_iff _).mp (hs.settings z)
    exact hs.setSettings (by simpa using hbusy) z ((ZoneSettings.wf_iff _).mpr ⟨climate, trims, loop,
      clampedRelease_inRange _ b1 b2 b3⟩) rfl

theorem ownSetEventEnable {s : State} (hs : s.ZoneLaw) (enables : BitVec 24) :
    (ownSetEventEnable enables s).state.ZoneLaw := by
  unfold Machine.ownSetEventEnable
  split
  · exact hs
  · next hbusy => exact hs.setLive (by simpa using hbusy) hs.live rfl rfl

theorem ownSetLine {s : State} (hs : s.ZoneLaw) (line : Byte) (level : Bool) : (ownSetLine line level s).state.ZoneLaw := by
  unfold Machine.ownSetLine
  repeat' split
  · exact hs
  · exact hs
  · next hbusy => exact hs.setLive (by simpa using hbusy) hs.live rfl rfl

theorem ownSetExpect {s : State} (hs : s.ZoneLaw) (levels : BitVec 16) : (ownSetExpect levels s).state.ZoneLaw := by
  unfold Machine.ownSetExpect
  split
  · exact hs
  · next hbusy =>
    exact (hs.setLive (x := { s.live with expected := levels.setWidth 12 }) (by simpa using hbusy) hs.live rfl
      rfl).of_plant (State.raiseIf_plant _ _ _)

theorem ownSetLinkRate {s : State} (hs : s.ZoneLaw) (link divisor : Byte) : (ownSetLinkRate link divisor s).state.ZoneLaw := by
  unfold Machine.ownSetLinkRate
  repeat' split
  · exact hs
  · next hbusy => exact hs.setLive (by simpa using hbusy) hs.live rfl rfl
  · exact hs
  · next hbusy =>
    exact (hs.setLive (x := { s.live with hatchDivisor := divisor }) (by simpa using hbusy) hs.live rfl rfl).of_plant
      (State.settleHatchRate_plant _)
  · exact hs

/-- An input line takes a function while every zone is OFFLINE: no zone is in COUNTDOWN, whatever the abort input becomes
(R39, R184). -/
theorem setInputFunction {s : State} (hs : s.ZoneLaw) (hb : s.storeBusy = false) (ho : s.allOffline = true) (n : Fin 12)
    (f : InputFunction) : (s.setInputFunction n f).ZoneLaw := by
  have offline (z : Zone) : (s.zones.get z).mode = .offline :=
    of_decide_eq_true (List.all_eq_true.mp ho z z.mem_all)
  have h := hs.setLive_of hb (x := { s.live with inputs := s.live.inputs.set n f }) hs.live fun z =>
    { hs.zones z with
      fire := by
        have := (hs.zones z).fire
        rw [offline z] at this ⊢
        exact FireState.wf_offline this _ }
  exact h.of_plant ((State.raiseIf_plant _ _ _).trans (followDoor_plant _ _))

theorem ownSetLineFunction {s : State} (hs : s.ZoneLaw) (direction line function zone : Byte) :
    (ownSetLineFunction direction line function zone s).state.ZoneLaw := by
  unfold Machine.ownSetLineFunction
  extract_lets change
  have changes (f : State → State) (hf : change = some f) (ho : s.allOffline = true) (hb : s.storeBusy = false) :
      (f s).ZoneLaw := by
    unfold change at hf
    split at hf
    · obtain ⟨x, -, rfl⟩ := Option.map_eq_some_iff.mp hf; exact hs.setInputFunction hb ho _ x
    · obtain ⟨x, -, rfl⟩ := Option.map_eq_some_iff.mp hf; exact hs.setLive hb hs.live rfl rfl
    · cases hf
  clear_value change
  split
  · exact hs
  · next f =>
    repeat' split
    · exact hs
    · exact hs
    · next ho hb => exact changes f rfl (by simpa using ho) (by simpa using hb)

/-! ### The fire sequence (R146 to R157) -/

theorem alarmSample {s : State} (hs : s.ZoneLaw) (z : Zone) : (s.alarmSample z).ZoneLaw := by
  unfold State.alarmSample
  split
  · refine raise (setZone hs z ?_) _
    obtain ⟨hwindow, -⟩ := hs.times
    exact { hs.zones z with fire := by simp only [FireState.wf, decide_eq_true_eq]; omega }
  · exact raise (setFire hs z rfl) _
  · exact hs

/-- A second knock begins a countdown in its range, in a zone that is not OFFLINE, held under an asserted abort (R148, R152). -/
theorem secondKnock {s : State} (hs : s.ZoneLaw) (z : Zone) : (s.secondKnock z).ZoneLaw := by
  unfold State.secondKnock State.enterCountdown
  split
  · next h =>
    obtain ⟨-, -, hmode⟩ := h
    refine (hs.setFire z ?_).of_plant ((State.abandonForFire_plant _).trans (State.raise_plant _ _))
    obtain ⟨-, hcountdown, -⟩ := hs.times
    simp only [FireState.wf, Bool.and_eq_true, decide_eq_true_eq]
    exact ⟨⟨by omega, hmode⟩, trivial⟩
  · exact hs

theorem ownManualRelease {s : State} (hs : s.ZoneLaw) (zone : Byte) : (ownManualRelease zone s).state.ZoneLaw := by
  unfold Machine.ownManualRelease
  repeat' split
  · exact hs
  · exact hs
  · exact hs.secondKnock _

theorem ownAbortRelease {s : State} (hs : s.ZoneLaw) (zone : Byte) : (ownAbortRelease zone s).state.ZoneLaw := by
  unfold Machine.ownAbortRelease
  repeat' split
  · exact hs
  · exact hs
  · exact hs.setFire _ rfl

theorem ownResetAlarm {s : State} (hs : s.ZoneLaw) (zone : Byte) : (ownResetAlarm zone s).state.ZoneLaw := by
  unfold Machine.ownResetAlarm
  repeat' split
  · exact hs
  · exact hs
  · exact hs.setFire _ rfl

theorem windowExpiry {s : State} (hs : s.ZoneLaw) (z : Zone) : (s.windowExpiry z).ZoneLaw := by
  unfold State.windowExpiry
  split
  · exact hs.setFire z rfl
  · exact hs

theorem discharge {s : State} (hs : s.ZoneLaw) (z : Zone) : (s.discharge z).ZoneLaw := by
  have committed : (State.writeBank { s with bank := .committed z (s.live.release.pulse * 1000) } .spent).ZoneLaw :=
    hs.of_plant (State.writeBank_plant _ _)
  exact (committed.setFire z (f := .discharged) rfl).of_plant rfl

theorem countdownExpiry {s : State} (hs : s.ZoneLaw) (z : Zone) : (s.countdownExpiry z).ZoneLaw := by
  unfold State.countdownExpiry
  repeat' split
  · exact hs.discharge z
  · exact (hs.setFire z (f := .starved) rfl).of_plant rfl
  · exact hs

/-! ### Samples (R94 to R104, R127 to R135, R142) -/

theorem account {s : State} (hs : s.ZoneLaw) (z : Zone) (weight : Nat) : (s.account z weight).ZoneLaw := by
  unfold State.account
  extract_lets c a dose next t
  have ht : t.ZoneLaw := by
    obtain ⟨hdose, -⟩ := a.wf_iff.mp (hs.accounts z)
    exact hs.setAccount z ((ClimateAccount.wf_iff _).mpr ⟨nextDose_le hdose, nextClimate_excursion (hs.climateInRange z)⟩)
  split
  · exact ht.of_plant rfl
  · exact ht.of_plant (State.raiseIf_plant _ _ _)

theorem goodSample {s : State} (hs : s.ZoneLaw) (z : Zone) (counts : RawCounts) : (s.goodSample z counts).ZoneLaw := by
  unfold State.goodSample
  extract_lets v c reading weight previous x s1 s2
  have h1 : s1.ZoneLaw := hs.setZone z
    { hs.zones z with sensor := Sensor.good_wf (hs.climateInRange z) (converted_inRange counts c.trims) }
  have h2 : s2.ZoneLaw := by
    unfold s2; split
    · exact h1
    · exact h1.account z weight
  split
  · exact h2.secondKnock z
  · exact h2

theorem sensorFault {s : State} (hs : s.ZoneLaw) (z : Zone) : (s.sensorFault z).ZoneLaw := by
  refine raiseIf (setZone hs z ?_) _ _
  exact { hs.zones z with sensor := Sensor.fault_wf (hs.zones z).sensor _ }

theorem sampleClimate {s : State} (hs : s.ZoneLaw) (z : Zone) (counts : RawCounts) : (s.sampleClimate z counts).ZoneLaw := by
  unfold State.sampleClimate
  extract_lets v x s1
  have h1 : s1.ZoneLaw := hs.setZone z
    { hs.zones z with sensor := Sensor.wf_congr (hs.zones z).sensor rfl rfl rfl rfl }
  split
  · exact h1.sensorFault z
  · exact h1.goodSample z counts

theorem freeze {s : State} (hs : s.ZoneLaw) (z : Zone) : (s.freeze z).ZoneLaw := hs.setMode z (FireState.wf_frozenBy (hs.zones z).fire)

theorem sampleLoop {s : State} (hs : s.ZoneLaw) (z : Zone) (count : BitVec 12) : (s.sampleLoop z count).ZoneLaw := by
  unfold State.sampleLoop
  extract_lets v c e s1 s2
  have h1 : s1.ZoneLaw :=
    (hs.setZone z (v := { v with loop := e.loop, loopLeft := 500 })
      { hs.zones z with loop := Loop.sample_wf (hs.zones z).loop _ }).of_plant (by simp [s1])
  have h2 : s2.ZoneLaw := by
    unfold s2; split
    · exact h1.freeze z
    · exact h1
  split
  · exact h2.alarmSample z
  · exact h2

/-! ### The lines (R153, R181) -/

theorem setLevel {s : State} (hs : s.ZoneLaw) {n : Fin 12} (h : s.inputFunction n ≠ .abort) (level : Bool) :
    (s.setLevel n level).ZoneLaw := hs.setLevels (State.setLevel_abortAsserted h level)

/-- The abort input changes with the levels: every countdown is at its full length, held or running as the input says
(R153). -/
theorem abortChanged {s : State} (hs : s.ZoneLaw) (levels : BitVec 12) :
    let t : State := { s with levels := levels }
    (t.abortChanged t.abortAsserted).ZoneLaw := by
  intro t
  obtain ⟨-, hcountdown, -⟩ := hs.times
  have aborted : (t.abortChanged t.abortAsserted).abortAsserted = t.abortAsserted := State.abortAsserted_congr rfl rfl
  exact
    { hs with
      zones := fun z => by
        rw [aborted, State.abortChanged, PerZone.get_tabulate]
        exact { hs.zones z with fire := FireState.afterAbort_wf (hs.zones z).fire _ (by show s.live.release.countdown * 1000 ≤ _; omega) } }

theorem lineChange {s : State} (hs : s.ZoneLaw) (n : Fin 12) (level : Bool) : (s.lineChange n level).ZoneLaw := by
  unfold State.lineChange
  split
  · exact hs
  · dsimp only
    split
    · next h => exact (hs.setLevel (by simp [h]) level).of_plant (State.raiseIf_plant _ _ _)
    · next h =>
      exact (hs.setLevel (by simp [h]) level).of_plant ((State.raiseIf_plant _ _ _).trans (followDoor_plant _ _))
    · unfold abortLineChanged
      split
      · next h => exact hs.setLevels h.symm
      · exact hs.abortChanged _
    · next h =>
      have ht := hs.setLevel (n := n) (by simp [h]) level
      split
      · exact ht.secondKnock _
      · exact ht
    · next h => exact hs.setLevel (by simp [h]) level

/-! ### The clock and the store (R185, R187) -/

theorem setClock {s : State} (hs : s.ZoneLaw) {clock : Nat} (hc : clock ≤ 4294967295) (valid : Bool) (left : Nat) :
    State.ZoneLaw { s with ret := { s.ret with clock := clock, clockValid := valid }, secondLeft := left } :=
  { hs with clock := hc }

theorem ownSetClock {s : State} (hs : s.ZoneLaw) (count : BitVec 32) : (ownSetClock count s).state.ZoneLaw :=
  (hs.setClock (clock := count.toNat) (by have := count.isLt; omega) true 1000).of_plant (State.overdueCheck_plant _)

theorem clockSecond {s : State} (hs : s.ZoneLaw) : s.clockSecond.ZoneLaw := by
  unfold State.clockSecond
  repeat' split
  · exact hs
  · exact hs
  · exact hs.setClock (min_le_left ..) _ _

/-- A store write begins with the live values and without the valid mark (R187). -/
theorem ownStoreSettings {s : State} (hs : s.ZoneLaw) (hp : s.phase = .running) : (ownStoreSettings s).state.ZoneLaw := by
  unfold Machine.ownStoreSettings
  split
  · exact hs
  · exact { hs with stored := nofun, writing := fun w hw => ⟨(Option.some.inj hw).symm, hp⟩ }

/-- A completed store write has stored the live values (R187). -/
theorem storeComplete {s : State} (hs : s.ZoneLaw) : s.storeComplete.ZoneLaw := by
  unfold State.storeComplete
  split
  · exact hs
  · next w hw =>
    obtain ⟨rfl, -⟩ := hs.writing w hw
    exact { hs with stored := fun _ => ⟨hs.live, rfl⟩, writing := fun w hw => absurd hw.symm (Option.some_ne_none w) }

/-! ### Power, reset and start-up (R144, R145, R186, R187, R190) -/

/-- The part stops: no write goes on, and a write that was cut has left no valid mark (R187). -/
theorem stop {s : State} (hs : s.ZoneLaw) (x : Phase) : (s.stop x).ZoneLaw := by
  rw [s.stop_eq]
  refine { hs with stored := fun hv => ?_, writing := fun w hw => absurd hw.symm (Option.some_ne_none w) }
  obtain ⟨hvalid, hidle⟩ : s.store.valid = true ∧ s.storeBusy = false := by simpa using hv
  obtain ⟨hstored, hwriting⟩ := hs.stored hvalid
  simp only [hwriting]
  exact ⟨hstored, trivial⟩

/-- The tunables that start-up loads are in range, under the valid mark or without it (R186). -/
theorem loaded_wf {s : State} (hs : s.ZoneLaw) : s.store.loaded.wf = true := by
  unfold Store.loaded
  split
  · next h => exact (hs.stored h).1
  · exact Tunables.factory_wf

/-- Start-up begins every zone afresh, with the loaded tunables (R190). -/
theorem startUp {s : State} (hs : s.ZoneLaw) (hp : s.phase ≠ .running) (lost : Bool) : (s.startUp lost).ZoneLaw := by
  have rebuilt : (s.rebuilt lost).ZoneLaw :=
    { accounts := fun z => by
        cases lost
        · exact hs.accounts z
        · show (Retained.afterLoss.climate.get z).wf = true
          rw [Retained.afterLoss, PerZone.get_tabulate]; decide
      zones := fun z => by
        rw [State.rebuilt, PerZone.get_tabulate]; exact ZoneState.atStart_lawful ..
      live := hs.loaded_wf
      stored := hs.stored
      writing := fun w hw => absurd (hs.writing w hw).2 hp
      clock := by cases lost; exacts [hs.clock, Nat.zero_le _] }
  exact rebuilt.of_plant rfl

theorem foldl {f : State → Zone → State} (hf : ∀ t z, t.ZoneLaw → (f t z).ZoneLaw) (zs : List Zone) {s : State}
    (hs : s.ZoneLaw) : (zs.foldl f s).ZoneLaw := by
  induction zs generalizing s with
  | nil => exact hs
  | cons z zs ih => exact ih (hf s z hs)

theorem firstSamples {s : State} (hs : s.ZoneLaw) (climate : PerZone RawCounts) (loops : PerZone (BitVec 12)) :
    (s.firstSamples climate loops).ZoneLaw :=
  foldl (fun _ z ht => ht.sampleLoop z _) _ (foldl (fun _ z ht => ht.sampleClimate z _) _ hs)

/-- The part enters service with every zone as start-up left it, QUIET, whatever its pins show (R145, R181). -/
theorem enterService {s : State} (hs : s.ZoneLaw) (hz : ∀ z, s.zones.get z = ZoneState.atStart (s.settings z).startMode)
    (lost : Bool) (pins : BitVec 12) (hp : s.phase ≠ .running) : (s.enterService lost pins).ZoneLaw := by
  have entered : State.ZoneLaw { s with phase := .running, levels := pins } :=
    { hs with
      zones := fun z => by show (s.zones.get z).Lawful _ _; rw [hz z]; exact ZoneState.atStart_lawful ..
      writing := fun w hw => absurd (hs.writing w hw).2 hp }
  refine entered.of_plant ?_
  exact (State.raiseIf_plant _ _ _).trans (State.raiseIf_plant _ _ _)

/-! ### The idle millisecond -/

theorem idle {s : State} (hs : s.ZoneLaw) : s.idle.ZoneLaw := by
  unfold State.idle
  dsimp only
  split
  · next hp =>
    have passed : State.ZoneLaw { s with zones := PerZone.tabulate fun z => (s.zones.get z).pass } :=
      { hs with
        zones := fun z => by
          rw [PerZone.get_tabulate]
          exact { hs.zones z with fire := FireState.pass_wf (hs.zones z).fire } }
    exact passed.of_plant rfl
  · exact hs.of_plant rfl

end State.ZoneLaw

end Sys2Proof.Machine
end

section
/-! Every step keeps the law of zones and settings: the law of every command, one case a constructor, and the idle
millisecond. -/

namespace Sys2Proof.Machine

open Host

/-! ### What a command does beside its owner's or its timer's work -/

namespace State.ZoneLaw

/-- A request keeps the law when its owner block does in a running part: an overrun and a lost frame touch the link alone
(R168). -/
theorem request {s t : State} (hs : s.ZoneLaw) {k : LinkId} {code : Byte} {c : Instr} {owner : State → Answer}
    (h : takeRequest k code c owner s = .next t) (ho : s.phase = .running → (owner s).state.ZoneLaw) : t.ZoneLaw := by
  rcases takeRequest_cases s k code c owner with ⟨⟨hp, -⟩, he⟩ | he | he <;> cases he.symm.trans h
  · exact (ho hp).of_plant (State.answered_plant ..)
  · exact hs.of_plant (s.discardFrame_plant k)
  · exact hs

/-- A request whose owner block leaves the zones and the settings alone keeps the law. -/
theorem request_plant {s t : State} (hs : s.ZoneLaw) {k : LinkId} {code : Byte} {c : Instr} {owner : State → Answer}
    (h : takeRequest k code c owner s = .next t) (ho : (owner s).state.plant = s.plant) : t.ZoneLaw :=
  hs.request h fun _ => hs.of_plant ho

/-- An event of the running part keeps the law when its effect does. -/
theorem event {s t : State} (hs : s.ZoneLaw) {f : State → State} (h : whileRunning f s = .next t) (hf : (f s).ZoneLaw) :
    t.ZoneLaw := by
  unfold whileRunning at h
  split at h <;> cases h
  · exact hf
  · exact hs

/-- A timer's event keeps the law when its effect does. -/
theorem timed {s t : State} (hs : s.ZoneLaw) {left : State → Nat} {f : State → State} (h : whenDue left f s = .next t)
    (hf : (f s).ZoneLaw) : t.ZoneLaw :=
  hs.event h (by split; exacts [hf, hs])

/-- The frame in reception, if any, is discarded (R167). -/
theorem discardIf {s : State} (hs : s.ZoneLaw) (k : LinkId) (c : Bool) : (if c then s.discardFrame k else s).ZoneLaw := by
  split
  · exact hs.of_plant (s.discardFrame_plant k)
  · exact hs

/-! ### Reset, power and start-up -/

theorem execResetAssert {s t : State} (hs : s.ZoneLaw) (h : execResetAssert s = .next t) : t.ZoneLaw := by
  unfold Machine.execResetAssert at h
  split at h <;> cases h
  · exact hs.stop _
  · exact hs.stop _
  · exact hs
  · exact hs

theorem execPowerLoss {s t : State} (hs : s.ZoneLaw) (h : execPowerLoss s = .next t) : t.ZoneLaw := by
  unfold Machine.execPowerLoss at h
  split at h <;> cases h
  · exact hs
  · exact hs.stop _

theorem execStartUp {s t : State} (hs : s.ZoneLaw) (h : execStartUp s = .next t) : t.ZoneLaw := by
  unfold Machine.execStartUp at h
  split at h <;> cases h
  · next hp => exact hs.startUp (by simp [hp]) _
  · next hp => exact hs.startUp (by simp [hp]) _
  · exact hs
  · exact hs

theorem execBackupBelowRetention {s t : State} (hs : s.ZoneLaw) (h : execBackupBelowRetention s = .next t) : t.ZoneLaw := by
  unfold Machine.execBackupBelowRetention at h
  split at h <;> cases h
  · exact hs.of_plant rfl
  · exact hs

end State.ZoneLaw

/-- A start-up that completes finds every zone as start-up left it, and takes the first samples (R190). -/
theorem State.Inv.execStartUpComplete_zoneLaw {s t : State} (hi : s.Inv) {pins : BitVec 12} {climate : PerZone RawCounts}
    {loops : PerZone (BitVec 12)} (h : execStartUpComplete pins climate loops s = .next t) : t.ZoneLaw := by
  have hs := hi.zoneLaw
  unfold Machine.execStartUpComplete at h
  split at h <;> obtain rfl := Outcome.next.inj h
  · next lost hp =>
    obtain ⟨hz, -⟩ := hi.start (by simp [State.startingUp, hp])
    exact (hs.enterService (fun z => hz z z.mem_all) lost pins (by simp [hp])).firstSamples climate loops
  · exact hs
  · exact hs
  · exact hs

/-! ### Every command and every step -/

/-- Every command keeps the law of zones and settings in a part that meets the invariant. -/
theorem State.Inv.exec_zoneLaw {c : Instr} {s t : State} (hi : s.Inv) (h : exec c s = .next t) : t.ZoneLaw := by
  have hs := hi.zoneLaw
  cases c with
  | enroll label cls slot => exact hs.request_plant h (ownEnroll_plant label cls slot s)
  | lookup label => exact hs.request_plant h (ownLookup_plant label s)
  | slotQuery slot => exact hs.request_plant h (ownSlotQuery_plant slot s)
  | nextLabel label => exact hs.request_plant h (ownNextLabel_plant label s)
  | place label slot => exact hs.request_plant h (ownPlace_plant label slot s)
  | relocate label slot => exact hs.request_plant h (ownRelocate_plant label slot s)
  | unbind label => exact hs.request_plant h (ownUnbind_plant label s)
  | retire label => exact hs.request_plant h (ownRetire_plant label s)
  | clearMark label mark => exact hs.request_plant h (ownClearMark_plant label mark s)
  | setClass label cls => exact hs.request_plant h (ownSetClass_plant label cls s)
  | extendDue label hours => exact hs.request_plant h (ownExtendDue_plant label hours s)
  | openManifest direction courier consignment due =>
    exact hs.request_plant h (ownOpenManifest_plant direction courier consignment due s)
  | addItem label => exact hs.request_plant h (ownAddItem_plant label s)
  | dropItem label => exact hs.request_plant h (ownDropItem_plant label s)
  | offerManifest => exact hs.request_plant h (ownOfferManifest_plant s)
  | cancelManifest => exact hs.request_plant h (ownCancelManifest_plant s)
  | readManifest => exact hs.request_plant h (ownReadManifest_plant s)
  | releaseManifest => exact hs.request_plant h (ownReleaseManifest_plant s)
  | enrolCourier entry badge code => exact hs.request_plant h (ownEnrolCourier_plant entry badge code s)
  | revokeCourier entry => exact hs.request_plant h (ownRevokeCourier_plant entry s)
  | unlockCourier entry => exact hs.request_plant h (ownUnlockCourier_plant entry s)
  | readCourier entry => exact hs.request_plant h (ownReadCourier_plant entry s)
  | setZoneMode zone mode => exact hs.request h fun _ => hs.ownSetZoneMode zone mode
  | setBoundary boundary value => exact hs.request_plant h (ownSetBoundary_plant boundary value s)
  | setClimate => exact hs.request h fun _ => hs.ownSetClimate _ (clampedClimate_inRange rfl)
  | readZone zone => exact hs.request_plant h (ownReadZone_plant zone s)
  | resetDose zone => exact hs.request h fun _ => hs.ownResetDose zone
  | setTrim zone trimT trimH => exact hs.request h fun _ => hs.ownSetTrim zone trimT trimH
  | setStartMode zone mode => exact hs.request h fun _ => hs.ownSetStartMode zone mode
  | setConditioning kT kH base => exact hs.request h fun _ => hs.ownSetConditioning kT kH base
  | readConditioning => exact hs.request_plant h rfl
  | setLoop => exact hs.request h fun _ => hs.ownSetLoop ..
  | loopReturn loop => exact hs.request h fun _ => hs.ownLoopReturn loop
  | clearLoopFlags loop o x a => exact hs.request h fun _ => hs.ownClearLoopFlags loop o x a
  | abortRelease zone => exact hs.request h fun _ => hs.ownAbortRelease zone
  | manualRelease zone => exact hs.request h fun _ => hs.ownManualRelease zone
  | resetAlarm zone => exact hs.request h fun _ => hs.ownResetAlarm zone
  | bankReloaded => exact hs.request_plant h (ownBankReloaded_plant s)
  | setRelease scope b0 b1 b2 b3 => exact hs.request h fun _ => hs.ownSetRelease scope b0 b1 b2 b3
  | status => exact hs.request_plant h rfl
  | clearEvents choice => exact hs.request_plant h rfl
  | setEventEnable enables => exact hs.request h fun _ => hs.ownSetEventEnable enables
  | setClock count => exact hs.request h fun _ => hs.ownSetClock count
  | readClock => exact hs.request_plant h rfl
  | setLine line level => exact hs.request h fun _ => hs.ownSetLine line level
  | setExpect levels => exact hs.request h fun _ => hs.ownSetExpect levels
  | setLineFunction direction line function zone =>
    exact hs.request h fun _ => hs.ownSetLineFunction direction line function zone
  | setTimers handover release openLimit => exact hs.request h fun _ => hs.ownSetTimers handover release openLimit
  | setClassLimit cls limit => exact hs.request h fun _ => hs.ownSetClassLimit cls limit
  | storeSettings => exact hs.request h hs.ownStoreSettings
  | setLinkRate link divisor => exact hs.request h fun _ => hs.ownSetLinkRate link divisor
  | identifyPart => exact hs.request_plant h rfl
  | identify badge code => exact hs.request_plant h (ownIdentify_plant badge code s)
  | declare consignment caseT caseH => exact hs.request_plant h (ownDeclare_plant consignment caseT caseH s)
  | deposit label => exact hs.request_plant h (ownDeposit_plant label s)
  | accept label => exact hs.request_plant h (ownChoose_plant label .accepted s)
  | decline label => exact hs.request_plant h (ownChoose_plant label .declined s)
  | view => exact hs.request_plant h (ownView_plant s)
  | finish => exact hs.request_plant h (ownFinish_plant s)
  | leave => exact hs.request_plant h (ownLeave_plant s)
  | hatchStatus => exact hs.request_plant h rfl
  | unknownRequest k code ps =>
    exact hs.event (f := fun s => if (s.link k).receiving then s else s.frameCompletes k code ps) h
      (by split; exacts [hs, hs.of_plant (s.frameCompletes_plant k code ps)])
  | frameDiscard k =>
    exact hs.event (f := fun s => if (s.link k).receiving then s.discardFrame k else s) h (hs.discardIf k _)
  | frameGapTimeout k =>
    exact hs.timed (left := fun s => (s.link k).gapLeft)
      (f := fun s => if (s.link k).receiving then s.discardFrame k else s) h (hs.discardIf k _)
  | responseSent k => exact hs.event (f := fun s => s.responseEnds k) h (hs.of_plant (s.responseEnds_plant k))
  | handoverTimerExpiry => exact hs.event h (hs.of_plant s.handoverExpiry_plant)
  | releaseTimerExpiry => exact hs.event h (hs.of_plant s.releaseExpiry_plant)
  | hatchOpenLimitReached => exact hs.event h (hs.of_plant s.openLimitReached_plant)
  | verificationWindowExpiry z => exact hs.event (f := fun s => s.windowExpiry z) h (hs.windowExpiry z)
  | countdownExpiry z => exact hs.event (f := fun s => s.countdownExpiry z) h (hs.countdownExpiry z)
  | releasePulseEnd => exact hs.event h (hs.of_plant s.pulseEnd_plant)
  | climateSample z counts =>
    exact hs.timed (left := fun s => (s.zones.get z).sampleLeft) (f := fun s => s.sampleClimate z counts) h
      (hs.sampleClimate z counts)
  | loopSample z count =>
    exact hs.timed (left := fun s => (s.zones.get z).loopLeft) (f := fun s => s.sampleLoop z count) h
      (hs.sampleLoop z count)
  | elapsedMinuteTick =>
    exact hs.timed (f := fun s => { s.minuteTick with minuteLeft := 60000 }) h (hs.of_plant s.minuteTick_plant)
  | elapsedHourTick =>
    exact hs.timed (f := fun s => { (if s.ret.clockValid then s.overdueCheck else s) with hourLeft := 3600000 }) h
      (hs.of_plant s.hourTick_plant)
  | siteClockSecond => cases h; exact hs.clockSecond
  | storeWriteComplete => exact hs.event h hs.storeComplete
  | inputLineChange n level => exact hs.event (f := fun s => s.lineChange n level) h (hs.lineChange n level)
  | resetAssert => exact hs.execResetAssert h
  | powerLoss => exact hs.execPowerLoss h
  | startUp => exact hs.execStartUp h
  | startUpComplete pins climate loops => exact hi.execStartUpComplete_zoneLaw h
  | backupBelowRetention => exact hs.execBackupBelowRetention h
  | characterReceived k char ok =>
    exact hs.event (f := fun s => s.character k char ok) h (hs.of_plant (s.character_plant k char ok))

/-- Every step keeps the law of zones and settings: a command of the queue does, and the idle millisecond runs the timers
down. -/
theorem State.Inv.step_zoneLaw {s t : State} (hi : s.Inv) (h : step s = .next t) : t.ZoneLaw := by
  unfold step at h
  split at h
  · cases h; exact hi.zoneLaw.idle
  · next rest _ => exact (hi.setPending rest).exec_zoneLaw h

/-- Settles O59, from the law of zones and settings that every step keeps. -/
theorem stepKeepsZonesAndSettings : Obligations.StepKeepsZonesAndSettings := fun _ _ hi h =>
  let law := hi.step_zoneLaw h
  ⟨law.zonesWf, law.settingsWf⟩

end Sys2Proof.Machine
end

section
/-! The units and slots of the zones (R30, R31, R47), and the requests that move a boundary or a zone's mode (R33, R34, R41 to
R43). -/

namespace Sys2Proof.Machine

open Host

/-! ### The units of a zone (R30, R31) -/

theorem Bounds.unitsOf_eq_some_iff (b : Bounds) {z : Zone} (hz : z ≠ .zc) (first last : Nat) :
    b.unitsOf z = some (first, last) ↔
      first = (if z = .z1 then 0 else b.get (z.number - 1) + 1) ∧ last = b.get z.number ∧ first ≤ last := by
  cases z with
  | z1 => simp [Bounds.unitsOf, Bounds.get, Zone.number]; omega
  | zc => exact absurd rfl hz
  | _ => simp [Bounds.unitsOf, Bounds.get, Zone.number]; omega

/-- Under boundaries in order a zone's units are those above the boundary below it, as far as its own (R30). -/
theorem Bounds.zoneOfUnit_eq_iff {b : Bounds} (hb : b.wf) {z : Zone} (hz : z ≠ .zc) {u : Nat} (hu : u ≤ 23) :
    b.zoneOfUnit u = z ↔ (if z = .z1 then 0 else b.get (z.number - 1) + 1) ≤ u ∧ u ≤ b.get z.number := by
  obtain ⟨h1, h2, h3, h4, h5⟩ := hb
  unfold Bounds.zoneOfUnit
  cases z with
  | zc => exact absurd rfl hz
  | _ => simp only [Bounds.get, Zone.number, reduceCtorEq, if_true, if_false]; split_ifs <;> simp <;> omega

theorem Bounds.zoneOfUnit_ne_zc (b : Bounds) (u : Nat) : b.zoneOfUnit u ≠ .zc := by
  unfold Bounds.zoneOfUnit; split_ifs <;> nofun

/-- Every slot lies in the zone whose units hold its unit (R31). -/
theorem Bounds.zoneOfSlot_eq_iff {b : Bounds} (hb : b.wf) (h : Fin 1536) (z : Zone) :
    b.zoneOfSlot h = z ↔ ∃ first last, b.unitsOf z = some (first, last) ∧ first ≤ h.val / 64 ∧ h.val / 64 ≤ last := by
  by_cases hz : z = .zc
  · subst hz
    exact ⟨fun he => absurd he (b.zoneOfUnit_ne_zc _), by rintro ⟨_, _, ⟨⟩, _⟩⟩
  · rw [Bounds.zoneOfSlot, unitOf, Bounds.zoneOfUnit_eq_iff hb hz (by omega)]
    constructor
    · rintro ⟨hl, hr⟩
      exact ⟨_, _, (b.unitsOf_eq_some_iff hz _ _).mpr ⟨rfl, rfl, hl.trans hr⟩, hl, hr⟩
    · rintro ⟨first, last, hu, hl, hr⟩
      obtain ⟨rfl, rfl, -⟩ := (b.unitsOf_eq_some_iff hz _ _).mp hu
      exact ⟨hl, hr⟩

/-- A zone of 64 slots a unit owns as many units as lie between its boundaries (R30). -/
theorem Bounds.slotsOwned_eq (b : Bounds) {z : Zone} (hz : z ≠ .zc) :
    b.slotsOwned z = 64 * (b.get z.number + 1 - (if z = .z1 then 0 else b.get (z.number - 1) + 1)) := by
  cases z with
  | z1 => rfl
  | zc => exact absurd rfl hz
  | _ =>
    simp only [Bounds.slotsOwned, Bounds.unitsOf, Bounds.get, Zone.number, Nat.reduceSub, reduceCtorEq, if_false]
    split_ifs <;> simp only []
    omega

/-- The units of the zones are 24, and the slots 1536 (R30). -/
theorem Bounds.slotsOwned_sum {b : Bounds} (hb : b.wf) : (Zone.all.map b.slotsOwned).sum = 1536 := by
  obtain ⟨h1, h2, h3, h4, h5⟩ := hb
  have chamber : b.slotsOwned .zc = 0 := rfl
  simp [Zone.all, Bounds.slotsOwned_eq, chamber, Zone.number, Bounds.get]
  omega

theorem Bounds.get_set (b : Bounds) {k : Nat} (h1 : 1 ≤ k) (h5 : k ≤ 5) (v j : Nat) :
    (b.set k v).get j = if j = k then v else b.get j := by
  have hk : k = 1 ∨ k = 2 ∨ k = 3 ∨ k = 4 ∨ k = 5 := by omega
  rcases hk with rfl | rfl | rfl | rfl | rfl <;> rcases j with _ | _ | _ | _ | _ | _ | j <;> simp [Bounds.get, Bounds.set]

/-! ### The slots bound in a zone (R47) -/

theorem State.slotBound_iff (s : State) (slot : Fin 1536) :
    s.slotBound slot = true ↔ ∃ r ∈ s.ret.records, r.home = some slot := by
  simp [State.slotBound, State.slotHolder]

/-- The home slots of a table, in the order of its records. -/
def homeSlots (rs : List Record) : List (Fin 1536) := rs.filterMap Record.home

/-- No home slot stands twice in a table that binds no slot twice (R4). -/
theorem slotsApart.homeSlots_nodup {rs : List Record} (h : slotsApart rs) : (homeSlots rs).Nodup := by
  refine List.pairwise_filterMap.mpr (h.imp fun {a b} hab x hx y hy hxy => ?_)
  subst hxy
  rcases hab with hn | hne
  · rw [hn] at hx; cases hx
  · exact hne (hx.trans hy.symm)

theorem length_filter_home (p : Fin 1536 → Zone) (z : Zone) (rs : List Record) :
    (rs.filter fun r => decide (r.home.map p = some z)).length = ((homeSlots rs).filter fun h => decide (p h = z)).length := by
  induction rs with
  | nil => rfl
  | cons r rs ih =>
    cases hr : r.home with
    | none => simpa [homeSlots, hr] using ih
    | some h => by_cases hz : p h = z <;> simpa [homeSlots, hr, hz] using ih

/-- The slots bound in a zone are the bound slots of its units (R47). -/
theorem State.slotsBound_eq (s : State) (z : Zone) (h : slotsApart s.ret.records) :
    s.slotsBound z = ((List.finRange 1536).filter fun h => s.slotBound h && decide (s.zoneOfSlot h = z)).length := by
  refine (length_filter_home s.zoneOfSlot z s.ret.records).trans (List.Perm.length_eq ?_)
  refine (List.perm_ext_iff_of_nodup (h.homeSlots_nodup.filter _) ((List.nodup_finRange _).filter _)).mpr fun slot => ?_
  simp [homeSlots, State.slotBound_iff]

/-- Settles O18. -/
theorem zonesPartitionTheSlots : Obligations.ZonesPartitionTheSlots := by
  refine ⟨fun b hb => ⟨Bounds.zoneOfSlot_eq_iff hb, Bounds.slotsOwned_sum hb, rfl⟩,
    fun b k v => ⟨rfl, fun h1 h5 j => b.get_set h1 h5 v j⟩, fun b z first last hz => b.unitsOf_eq_some_iff hz first last,
    fun b z => ⟨fun first last h => by rw [Bounds.slotsOwned, h], fun h => by rw [Bounds.slotsOwned, h]⟩,
    fun s z h => s.slotsBound_eq z h⟩

/-! ### SET_BOUNDARY (R33, R34) -/

theorem Zone.ofNumber_eq_some_iff (n : Nat) (z : Zone) : Zone.ofNumber n = some z ↔ n = z.number := by
  refine ⟨fun h => ?_, fun h => by subst h; cases z <;> rfl⟩
  unfold Zone.ofNumber at h; split at h <;> cases h <;> rfl

theorem ownSetBoundary_badParam {s : State} {boundary value : Byte}
    (h : boundary.toNat < 1 ∨ 5 < boundary.toNat ∨ 23 < value.toNat) :
    ownSetBoundary boundary value s = refused s .badParam := by
  unfold ownSetBoundary
  dsimp only
  split
  · next lower _ hl _ =>
    have : boundary.toNat ≠ 0 := fun h0 => by rw [h0] at hl; cases hl
    rw [if_pos (by omega)]
  · rfl

/-- The bound slots over which a boundary would move are those whose zone would change (R33, R34). -/
theorem State.movedBound_eq (s : State) (hb : s.ret.bounds.wf) {k v : Nat} (h1 : 1 ≤ k) (h5 : k ≤ 5)
    (hl : s.ret.bounds.get (k - 1) ≤ v) (hu : v ≤ s.ret.bounds.get (k + 1)) :
    s.movedBound (s.ret.bounds.get k) v =
      s.ret.records.any fun r => r.home.any fun h =>
        decide ((s.ret.bounds.set k v).zoneOfSlot h ≠ s.ret.bounds.zoneOfSlot h) := by
  unfold State.movedBound
  congr 1
  funext r
  cases r.home with
  | none => rfl
  | some h => exact unitMoves_eq _ hb k v h1 h5 hl hu _ (by unfold unitOf; omega)

/-- One more test before the others: a request that refuses on it answers as a list of tests that begins with it does. -/
theorem judged_of_if {s t : State} {k : LinkId} {code : Byte} {tests : List (Bool × Status)} {results : List Byte} {x : Status}
    {p : Prop} [Decidable p] {fails : Bool} {a : Answer} (hfails : fails = decide p)
    (ha : ¬ p → (.next (a.state.answered k code a.status a.results) : Outcome State Fault Refusal) =
      judged s k code tests t results) :
    (.next ((if p then refused s x else a).state.answered k code (if p then refused s x else a).status
      (if p then refused s x else a).results) : Outcome State Fault Refusal) =
      judged s k code ((fails, x) :: tests) t results := by
  subst hfails
  by_cases hp : p
  · simp [judged, hp]
  · simpa [judged, hp] using ha hp

/-- SET_BOUNDARY between two zones, once its parameters are in range. -/
theorem ownSetBoundary_between {s : State} {boundary value : Byte} {lower upper : Zone} (hl : lower.number = boundary.toNat)
    (hu : upper.number = boundary.toNat + 1) (hk : boundary.toNat ≤ 5) (hv : value.toNat ≤ 23) :
    ownSetBoundary boundary value s =
      if value.toNat < s.ret.bounds.get (boundary.toNat - 1) ∨ s.ret.bounds.get (boundary.toNat + 1) < value.toNat then
        refused s .order
      else if s.mode lower ≠ .offline ∨ s.mode upper ≠ .offline then refused s .zoneMode
      else if s.movedBound (s.ret.bounds.get boundary.toNat) value.toNat then refused s .slotsBound
      else accepted { s with ret := { s.ret with bounds := s.ret.bounds.set boundary.toNat value.toNat } }
        (s.ret.bounds.set boundary.toNat value.toNat).bytes := by
  unfold ownSetBoundary
  dsimp only
  rw [(Zone.ofNumber_eq_some_iff _ _).mpr hl.symm, (Zone.ofNumber_eq_some_iff _ _).mpr hu.symm]
  exact if_neg (by omega)

/-- Settles O19: a boundary or value out of range, then the tests in their order, the last over the slots that would change
zone. -/
theorem setBoundaryMovesUnits : Obligations.SetBoundaryMovesUnits := by
  intro s boundary value htake hb
  refine ⟨fun h => takeRequest_refused htake (ownSetBoundary_badParam h), fun lower upper hlower hupper hk hv => ?_⟩
  have hk1 : 1 ≤ boundary.toNat := by rw [← hlower]; cases lower <;> decide
  refine (takeRequest_taken (ownSetBoundary boundary value) htake).trans ?_
  rw [ownSetBoundary_between hlower hupper hk hv]
  refine judged_of_if rfl fun horder => judged_of_if rfl fun _ => judged_of_if ?_ fun _ => rfl
  rw [Bool.decide_eq_true]
  exact (s.movedBound_eq hb hk1 hk (by omega) (by omega)).symm

/-! ### SET_ZONE_MODE (R41 to R43) -/

/-- The change of a zone's mode, written out: an entry into OFFLINE clears the loop (R42). -/
theorem State.changeMode_eq (s : State) (z : Zone) (m : ZoneMode) :
    s.changeMode z m = if (s.zones.get z).mode = m then s else s.setZone z
      { s.zones.get z with
        mode := m, loop := if m = .offline then (s.zones.get z).loop.clearedOffline else (s.zones.get z).loop } := by
  rfl

/-- Settles O20: each zone's own value, then the request's test and the mode it gives. -/
theorem setZoneModeTakesTheMode : Obligations.SetZoneModeTakesTheMode := by
  refine ⟨fun s z w v c => ⟨?_, s.setSettings_settings z w c, rfl, rfl, rfl, rfl, rfl, rfl⟩,
    fun s zone mode htake => ⟨fun h => takeRequest_refused htake ?_, fun z m hz hm => ?_⟩⟩
  · rw [State.setZone_zones, PerZone.get_set]
  · rcases h with h | h
    · simp [ownSetZoneMode, h]
    · cases hz : zoneOf zone <;> simp [ownSetZoneMode, h, hz]
  · refine (takeRequest_taken (ownSetZoneMode zone mode) htake).trans ?_
    simp only [ownSetZoneMode, hz, hm]
    refine judged_of_if ?_ fun _ => ?_
    · rw [Bool.eq_iff_iff]
      simp [State.mode, State.fire, and_comm, and_assoc]
    · rw [State.changeMode_eq, zoneOf_byte hz, modeOf_byte hm]
      rfl

end Sys2Proof.Machine
end

section
/-! The requests that report (R47, R52, R65, R89, R126, R171, R180, R185). -/

namespace Sys2Proof.Machine

open Host

/-- A request whose owner block changes nothing and accepts is answered with its report. -/
theorem takeRequest_report {s : State} {k : LinkId} {code : Byte} {c : Instr} {owner : State → Answer} {bytes : List Byte}
    (h : s.takes k c) (ho : owner s = accepted s bytes) :
    takeRequest k code c owner s = .next (s.answered k code .ok bytes) := by
  rw [takeRequest_taken owner h, ho]
  rfl

/-- A courier entry's report, the entry as it was sent (R52). -/
theorem State.courierBytes_eq (s : State) {entry : Byte} {e : Fin 16} (he : entryOf entry = some e) :
    s.courierBytes e =
      match s.ret.couriers[e] with
      | some c => [entry, 1] ++ be24 c.badge.toNat ++
          [byteOf c.attempts, if c.locked then 1 else 0, if s.identified = some e then 1 else 0]
      | none => [entry, 0, 0, 0, 0, 0, 0, if s.identified = some e then 1 else 0] := by
  simp only [State.courierBytes, entryOf_byte he, yesNo, decide_eq_true_eq]
  cases s.ret.couriers[e] <;> rfl

theorem State.manifestBytes_eq (s : State) (m : Manifest) :
    s.manifestBytes m = s.header m ++ (m.items.map Item.bytes).flatten := by
  rw [State.manifestBytes, List.flatMap_def]

theorem secondsLeft_eq (left : Option Nat) : secondsLeft left = left.getD 0 / 1000 := by
  cases left <;> rfl

/-- The hatch report, an entry and a direction that are absent being 0xFF (R65). -/
theorem State.hatchBytes_eq (s : State) :
    s.hatchBytes = [byteOf s.hatch.number, s.identified.elim 0xFF fun e => byteOf e.val,
      byteOf (manifestStateNumber s.manifest), s.manifest.elim 0xFF fun m => byteOf m.route.directionNumber] ++
      be16 (s.handoverTimer.getD 0 / 1000) ++ [if s.lockAsserted then 1 else 0, if s.doorOpen then 1 else 0] := by
  rw [State.hatchBytes, secondsLeft_eq]
  cases s.identified <;> cases s.manifest <;> rfl

/-- Settles O22: each report by its owner block's answer. -/
theorem reportsChangeNothing : Obligations.ReportsChangeNothing := by
  refine ⟨fun s zone h => ?_, fun s entry h => ?_, fun s h => ?_, fun s h => takeRequest_report h rfl,
    fun s h => takeRequest_report h rfl, fun s h => takeRequest_report h rfl, fun s h => takeRequest_report h rfl,
    fun s h => takeRequest_report h (congrArg (accepted s) s.hatchBytes_eq)⟩
  · cases hz : zoneOf zone with
    | none => exact takeRequest_refused h (by rw [ownReadZone, hz])
    | some z => exact takeRequest_report h (by rw [ownReadZone, hz])
  · cases he : entryOf entry with
    | none => exact takeRequest_refused h (by rw [ownReadCourier, he])
    | some e => exact takeRequest_report h (by rw [ownReadCourier, he]; exact congrArg (accepted s) (s.courierBytes_eq he))
  · cases hm : s.manifest with
    | none => exact takeRequest_refused h (by rw [ownReadManifest, hm])
    | some m => exact takeRequest_report h (by rw [ownReadManifest, hm]; exact congrArg (accepted s) (s.manifestBytes_eq m))

end Sys2Proof.Machine
end

section
/-! LOOP_SAMPLE (R45, R127, R130, R131, R134, R142). -/

namespace Sys2Proof.Machine

open Host

/-- The state after a loop's sample, before an ALARM is handed on: the zone's loop, mode and next sample, and the events. -/
def State.afterLoopSample (s : State) (z : Zone) (e : LoopEffect) : State :=
  { s with
    zones := s.zones.set z
      { s.zones.get z with
        mode := if e.freezes = true ∧ (s.zones.get z).mode = .online then .frozen else (s.zones.get z).mode
        loop := e.loop
        loopLeft := 500 }
    flags := s.flags ||| (if e.warned then EventFlag.loopWarn.mask else 0)
      ||| (if e.isolated then EventFlag.loopIsolated.mask else 0) ||| (if e.recovered then EventFlag.loopRecovered.mask else 0) }

/-- A cause raises its flag and changes nothing else (R179). -/
theorem State.raiseIf_eq (s : State) (c : Bool) (f : EventFlag) :
    s.raiseIf c f = { s with flags := s.flags ||| (if c then f.mask else 0) } := by
  cases c
  · simp
  · rfl

/-- A freeze takes ONLINE to FROZEN and leaves every other mode (R45). -/
theorem ZoneMode.frozenBy_eq (m : ZoneMode) : m.frozenBy = if m = .online then .frozen else m := by
  cases m <;> rfl

/-- A freeze changes a zone's mode over the zone's value just written. -/
theorem State.freeze_setZone (s : State) (z : Zone) (v : ZoneState) :
    (s.setZone z v).freeze z = s.setZone z { v with mode := v.mode.frozenBy } := by
  simp [State.freeze, State.setMode, State.setZone, State.mode]

/-- The events of a loop's sample are raised (R130, R131, R134). -/
def State.raiseLoopEvents (s : State) (e : LoopEffect) : State :=
  ((s.raiseIf e.warned .loopWarn).raiseIf e.isolated .loopIsolated).raiseIf e.recovered .loopRecovered

theorem State.raiseLoopEvents_eq (s : State) (e : LoopEffect) :
    s.raiseLoopEvents e = { s with
      flags := s.flags ||| (if e.warned then EventFlag.loopWarn.mask else 0)
        ||| (if e.isolated then EventFlag.loopIsolated.mask else 0)
        ||| (if e.recovered then EventFlag.loopRecovered.mask else 0) } := by
  simp only [State.raiseLoopEvents, State.raiseIf_eq]

/-- A freeze and the events of a sample do not touch each other's part of the state. -/
theorem State.freeze_raiseLoopEvents (s : State) (z : Zone) (e : LoopEffect) :
    (s.raiseLoopEvents e).freeze z = (s.freeze z).raiseLoopEvents e := by
  rw [State.raiseLoopEvents_eq, State.raiseLoopEvents_eq]
  rfl

/-- The zone's new value, the events and the freeze, together. -/
theorem State.afterLoopSample_eq (s : State) (z : Zone) (e : LoopEffect) :
    (let t := (s.setZone z { s.zones.get z with loop := e.loop, loopLeft := 500 }).raiseLoopEvents e
      if e.freezes then t.freeze z else t) = s.afterLoopSample z e := by
  dsimp only
  rw [State.freeze_raiseLoopEvents, State.freeze_setZone, ZoneMode.frozenBy_eq, State.raiseLoopEvents_eq,
    State.raiseLoopEvents_eq]
  by_cases hf : e.freezes = true
  · simp only [State.afterLoopSample, hf, true_and, State.setZone, if_true]
  · simp only [State.afterLoopSample, hf, State.setZone, Bool.false_eq_true, false_and, if_false]

/-- A sample gives the zone its loop, its mode and its next sample, raises the events, and hands an ALARM on (R127, R142). -/
theorem State.sampleLoop_eq (s : State) (z : Zone) (count : BitVec 12) :
    s.sampleLoop z count =
      let t := s.afterLoopSample z ((s.zones.get z).loop.sample (s.settings z).loop (loopValue count))
      if (s.zones.get z).loop.state ≠ .isolated ∧ classify (s.settings z).loop (loopValue count) = .alarm
        then t.alarmSample z else t := by
  dsimp only
  rw [← State.afterLoopSample_eq]
  rfl

theorem exec_loopSample (z : Zone) (count : BitVec 12) (s : State) :
    exec (.loopSample z count) s = whenDue (fun s => (s.zones.get z).loopLeft) (fun s => s.sampleLoop z count) s := rfl

/-- Settles O42: a sample that is due, with an ALARM to hand on or without. -/
theorem loopSampleIsTaken : Obligations.LoopSampleIsTaken := by
  refine ⟨fun s z count h => ?_, fun s z count hrun hdue => ⟨fun h => ?_, fun h => ?_⟩⟩
  · rw [exec_loopSample, whenDue_early h]
  · rw [exec_loopSample, whenDue_due hrun hdue, State.sampleLoop_eq]
    exact congrArg _ (if_pos h)
  · rw [exec_loopSample, whenDue_due hrun hdue, State.sampleLoop_eq]
    exact congrArg _ (if_neg h)

end Sys2Proof.Machine
end

section
/-! The ranges and numbers of parameters, states, statuses and priorities, and their bytes (R29, R35, R48, R49, R140, R145,
R170, R173, R179). -/

namespace Sys2Proof.Machine

open Host

/-! ### Parameters with a range -/

/-- A number taken as a member of a range is the number itself. -/
theorem boundedNumber_eq_some_iff {n k : Nat} {i : Fin k} :
    (if h : n < k then some (⟨n, h⟩ : Fin k) else none) = some i ↔ n = i.val := by
  constructor
  · intro h; split at h <;> cases h; rfl
  · rintro rfl; exact dif_pos i.isLt

theorem slotParam_eq_none_slot_iff (n : BitVec 16) : slotParam n = some none ↔ n = 0xFFFF := by
  unfold slotParam
  by_cases h : n = 0xFFFF <;> simp [h]

/-- The number 0xFFFF is no slot's, so that a slot parameter names the slots as a slot number does. -/
theorem slotParam_eq_some_slot_iff (n : BitVec 16) (h : Fin 1536) : slotParam n = some (some h) ↔ n.toNat = h.val := by
  unfold slotParam
  by_cases hn : n = 0xFFFF
  · subst hn
    have := h.isLt
    simp
    omega
  · simp only [if_neg hn, Option.map_eq_some_iff, Option.some.injEq, exists_eq_right]
    exact boundedNumber_eq_some_iff

theorem modeOf_eq_some_iff (b : Byte) (m : ZoneMode) : modeOf b = some m ↔ b.toNat = m.number := by
  unfold modeOf
  refine ⟨fun h => ?_, fun h => by rw [h]; cases m <;> rfl⟩
  split at h <;> cases h <;> assumption

theorem policyOf_eq_some_iff (b : Byte) (p : Policy) : policyOf b = some p ↔ b.toNat = p.number := by
  unfold policyOf
  refine ⟨fun h => ?_, fun h => by rw [h]; cases p <;> rfl⟩
  split at h <;> cases h <;> assumption

theorem captureOf_eq_some_iff (b : Byte) (m : Capture) : captureOf b = some m ↔ b.toNat = m.number := by
  unfold captureOf
  refine ⟨fun h => ?_, fun h => by rw [h]; cases m <;> rfl⟩
  split at h <;> cases h <;> assumption

/-! ### Labels and access codes -/

/-- A property of every character of a text of fixed length. -/
theorem all_toList_iff {n : Nat} (v : Vector Byte n) (p : Byte → Bool) : v.toList.all p = true ↔ ∀ i : Fin n, p v[i] = true := by
  rw [List.all_eq_true]
  constructor
  · intro h i
    exact h _ (Vector.mem_toList_iff.mpr (Vector.getElem_mem i.isLt))
  · intro h x hx
    obtain ⟨i, hi, rfl⟩ := Vector.getElem_of_mem (Vector.mem_toList_iff.mp hx)
    exact h ⟨i, hi⟩

theorem labelOk_iff (l : Label) : labelOk l = true ↔
    ∀ i : Fin 8, (0x30 ≤ l[i].toNat ∧ l[i].toNat ≤ 0x39) ∨ (0x41 ≤ l[i].toNat ∧ l[i].toNat ≤ 0x5A) := by
  simp only [labelOk, all_toList_iff, labelChar, Bool.or_eq_true, Bool.and_eq_true, decide_eq_true_eq]

theorem isDigit_iff (c : Byte) : isDigit c = true ↔ 0x30 ≤ c.toNat ∧ c.toNat ≤ 0x39 := by
  simp [isDigit]

theorem codeOf_eq_none_iff (code : AccessCode) :
    codeOf code = none ↔ ∃ i : Fin 6, code[i].toNat < 0x30 ∨ 0x39 < code[i].toNat := by
  simp only [codeOf, ite_eq_right_iff, reduceCtorEq, imp_false, all_toList_iff, isDigit_iff, not_forall]
  exact exists_congr fun i => by omega

/-- A code has a number when its characters are digits, and it is the number they write (R49). -/
theorem codeOf_eq_some_iff (code : AccessCode) (n : Nat) :
    codeOf code = some n ↔
      code.toList.all isDigit = true ∧ code.toList.foldl (fun n c => n * 10 + (c.toNat - 0x30)) 0 = n := by
  simp [codeOf]

/-- The six characters of an access code. -/
theorem code_toList (code : AccessCode) : code.toList = [code[0], code[1], code[2], code[3], code[4], code[5]] := by
  obtain ⟨⟨l⟩, h⟩ := code
  match l, h with
  | [_, _, _, _, _, _], _ => rfl

/-- The number of a code in base ten, each character counting from the character 0 (R55). -/
theorem codeOf_value {code : AccessCode} {n : Nat} (h : codeOf code = some n) :
    n + 0x30 * 111111 = 100000 * code[0].toNat + 10000 * code[1].toNat + 1000 * code[2].toNat + 100 * code[3].toNat
      + 10 * code[4].toNat + code[5].toNat := by
  obtain ⟨hdigits, hvalue⟩ := (codeOf_eq_some_iff code n).mp h
  rw [code_toList] at hdigits hvalue
  simp only [List.all_cons, List.all_nil, Bool.and_true, Bool.and_eq_true, isDigit_iff] at hdigits
  simp only [List.foldl_cons, List.foldl_nil] at hvalue
  omega

/-- Digits are read back from the number they write: each step keeps the number before it and the digit added. -/
theorem digits_injective {as bs : List Byte} (hlen : as.length = bs.length) (ha : as.all isDigit = true)
    (hb : bs.all isDigit = true) {n m : Nat}
    (h : as.foldl (fun n c => n * 10 + (c.toNat - 0x30)) n = bs.foldl (fun n c => n * 10 + (c.toNat - 0x30)) m) :
    n = m ∧ as = bs := by
  induction as generalizing bs n m with
  | nil =>
    cases bs with
    | nil => exact ⟨h, rfl⟩
    | cons b bs => cases hlen
  | cons a as ih =>
    cases bs with
    | nil => cases hlen
    | cons b bs =>
      simp only [List.all_cons, Bool.and_eq_true, isDigit_iff] at ha hb
      obtain ⟨hnm, rfl⟩ := ih (Nat.succ.inj hlen) ha.2 hb.2 h
      dsimp only at hnm
      have hab : a = b := BitVec.eq_of_toNat_eq (by omega)
      exact ⟨by omega, by rw [hab]⟩

/-- Two codes of one number are one code (R55). -/
theorem codeOf_injective {a b : AccessCode} {n : Nat} (ha : codeOf a = some n) (hb : codeOf b = some n) : a = b := by
  obtain ⟨da, va⟩ := (codeOf_eq_some_iff a n).mp ha
  obtain ⟨db, vb⟩ := (codeOf_eq_some_iff b n).mp hb
  exact Vector.toList_inj.mp (digits_injective (by simp) da db (va.trans vb.symm)).2

/-! ### Numbers in bytes -/

theorem laidOut_be16 (n : Nat) : laidOut (be16 n) [(0, 2, n)] := by
  simp [laidOut, fieldAt, be16, byteOf]; omega

theorem laidOut_be24 (n : Nat) : laidOut (be24 n) [(0, 3, n)] := by
  simp [laidOut, fieldAt, be24, byteOf]; omega

theorem laidOut_be32 (n : Nat) : laidOut (be32 n) [(0, 4, n)] := by
  simp [laidOut, fieldAt, be32, byteOf]; omega

theorem beS8_eq (i : Int) : beS8 i = [BitVec.ofNat 8 (signedField 1 i)] := by
  rw [beS8, signedField, BitVec.ofNat_toNat, BitVec.setWidth_eq]

/-! ### The settled statement -/

/-- Settles O8: each encoding by its lemma, each table of numbers by evaluation. -/
theorem parametersHaveTheirRanges : Obligations.ParametersHaveTheirRanges := by
  refine ⟨fun _ _ => boundedNumber_eq_some_iff, fun _ _ => boundedNumber_eq_some_iff, slotParam_eq_none_slot_iff,
    slotParam_eq_some_slot_iff, fun _ _ => boundedNumber_eq_some_iff, fun _ _ => boundedNumber_eq_some_iff,
    fun b z => Zone.ofNumber_eq_some_iff b.toNat z, modeOf_eq_some_iff, policyOf_eq_some_iff, captureOf_eq_some_iff,
    labelOk_iff, ⟨codeOf_eq_none_iff, fun _ _ => codeOf_value, fun _ _ _ => codeOf_injective⟩,
    fun n => ⟨rfl, rfl, rfl, laidOut_be16 n, laidOut_be24 n, laidOut_be32 n⟩, ⟨rfl, rfl⟩, fun i => ⟨rfl, beS8_eq i⟩,
    ⟨rfl, rfl, fun _ _ _ _ => rfl, fun _ _ => rfl, fun _ _ => ⟨rfl, rfl⟩, rfl, fun _ _ _ => rfl, rfl, rfl, rfl, rfl, rfl, rfl⟩,
    fun _ _ => rfl, fun _ _ => rfl, fun _ => rfl, rfl, rfl⟩

end Sys2Proof.Machine
end

section
/-! The law of the couriers, the links and the handover (R48 to R90, R165 to R168), each part of it said once: the courier
table, one link under its rules, and the desk, which is the manifest, the hatch link and HU's timers. -/

namespace Sys2Proof.Machine

open Host

/-! ### The courier table (R48, R56) -/

/-- Every enrolled entry is whole, and no badge stands in two entries. -/
structure CourierLaw (v : Vector (Option Courier) 16) : Prop where
  whole : ∀ (e : Fin 16) (c : Courier), v[e] = some c → c.wf = true
  apart : ∀ (e e' : Fin 16) (c c' : Courier), e ≠ e' → v[e] = some c → v[e'] = some c' → c.badge ≠ c'.badge

theorem State.couriersWf_iff (s : State) : s.couriersWf ↔ CourierLaw s.ret.couriers := by
  constructor
  · rintro ⟨whole, apart⟩
    refine ⟨fun e c h => by simpa [h] using whole e, fun e e' c c' hne h h' hb => ?_⟩
    exact apart e e' hne (by simp [State.enrolled, h]) (by simp [h, h', hb])
  · rintro ⟨whole, apart⟩
    refine ⟨fun e => ?_, fun e e' hne he hb => ?_⟩
    · cases h : s.ret.couriers[e] with
      | none => rfl
      | some c => exact whole e c h
    · obtain ⟨c, h⟩ := Option.isSome_iff_exists.mp he
      rw [h] at hb
      obtain ⟨c', h', hc⟩ := Option.map_eq_some_iff.mp hb.symm
      exact apart e e' c c' hne h h' hc.symm

/-- The entry written is read back, and every other entry as it stood. -/
theorem couriers_getElem_set (v : Vector (Option Courier) 16) (e e' : Fin 16) (c : Option Courier) :
    (v.set e c)[e'] = if e' = e then c else v[e'] := by
  simp only [Fin.getElem_fin, Vector.getElem_set, Fin.ext_iff, eq_comm]

theorem CourierLaw.of_lost : CourierLaw Retained.afterLoss.couriers := by
  constructor <;> simp [Retained.afterLoss]

/-- An entry is written: emptied, or whole and with a badge that no other entry holds. -/
theorem CourierLaw.set {v : Vector (Option Courier) 16} (h : CourierLaw v) (e : Fin 16) {c : Option Courier}
    (whole : ∀ x, c = some x → x.wf = true)
    (apart : ∀ x, c = some x → ∀ e' c', e' ≠ e → v[e'] = some c' → c'.badge ≠ x.badge) : CourierLaw (v.set e c) := by
  constructor
  · intro d x hx
    rw [couriers_getElem_set] at hx
    split at hx
    · exact whole x hx
    · exact h.whole d x hx
  · intro d d' x x' hne hx hx'
    rw [couriers_getElem_set] at hx hx'
    split at hx <;> split at hx'
    · next hd hd' => exact absurd (hd.trans hd'.symm) hne
    · next _ hd' => exact (apart x hx d' x' hd' hx').symm
    · next hd _ => exact apart x' hx' d x hd hx
    · exact h.apart d d' x x' hne hx hx'

/-- An enrolled entry is written again under its own badge. -/
theorem CourierLaw.rewrite {v : Vector (Option Courier) 16} (h : CourierLaw v) {e : Fin 16} {c c' : Courier}
    (hc : v[e] = some c) (whole : c'.wf = true) (badge : c'.badge = c.badge) : CourierLaw (v.set e (some c')) := by
  refine h.set e (fun x hx => Option.some.inj hx ▸ whole) fun x hx e' d hne hd => ?_
  rw [← Option.some.inj hx, badge]
  exact h.apart e' e d c hne hd hc

theorem Courier.wf_iff (c : Courier) : c.wf = true ↔
    c.badge ≠ 0 ∧ c.code ≤ 999999 ∧ c.attempts ≤ 3 ∧ (c.locked = true ↔ c.attempts = 3) := by
  have lock : c.locked = decide (c.attempts = 3) ↔ (c.locked = true ↔ c.attempts = 3) := by rw [Bool.eq_iff_iff]; simp
  simp only [Courier.wf, Bool.and_eq_true, decide_eq_true_eq, and_assoc, lock]

/-- The number of an access code has six digits (R48). -/
theorem codeOf_le {code : AccessCode} {n : Nat} (h : codeOf code = some n) : n ≤ 999999 := by
  have value := codeOf_value h
  obtain ⟨digits, -⟩ := (codeOf_eq_some_iff code n).mp h
  have upper (i : Fin 6) : code[i].toNat ≤ 0x39 := ((isDigit_iff _).mp ((all_toList_iff code isDigit).mp digits i)).2
  have h0 := upper 0; have h1 := upper 1; have h2 := upper 2; have h3 := upper 3; have h4 := upper 4; have h5 := upper 5
  simp only [Fin.getElem_fin] at h0 h1 h2 h3 h4 h5
  have : (3 : Fin 6).val = 3 ∧ (4 : Fin 6).val = 4 ∧ (5 : Fin 6).val = 5 := ⟨rfl, rfl, rfl⟩
  simp only [this] at h3 h4 h5
  simp at h0 h1 h2
  omega

/-- A new entry has no failed attempt and is not locked (R49). -/
theorem Courier.enrolled_wf {badge : BitVec 24} {code : AccessCode} {n : Nat} (hb : badge ≠ 0) (hc : codeOf code = some n) :
    Courier.wf { badge := badge, code := n, attempts := 0, locked := false } = true :=
  (Courier.wf_iff _).mpr ⟨hb, codeOf_le hc, Nat.zero_le _, by simp⟩

theorem Courier.cleared_wf {c : Courier} (h : c.wf = true) : c.cleared.wf = true := by
  obtain ⟨badge, code, -, -⟩ := c.wf_iff.mp h
  exact (Courier.wf_iff _).mpr ⟨badge, code, Nat.zero_le _, by simp [Courier.cleared]⟩

/-- A failed attempt at an entry that is not locked locks it exactly at the third (R56). -/
theorem Courier.failed_wf {c : Courier} (h : c.wf = true) (hl : c.locked = false) : c.failed.wf = true := by
  obtain ⟨badge, code, attempts, locked⟩ := c.wf_iff.mp h
  have : c.attempts ≠ 3 := fun he => by simp [locked.mpr he] at hl
  refine (Courier.wf_iff _).mpr ⟨badge, code, ?_, ?_⟩
  · simp only [Courier.failed]; omega
  · simp only [Courier.failed, hl, Bool.false_or, decide_eq_true_eq]; omega

theorem Courier.unlocked_wf {c : Courier} (h : c.wf = true) (hl : c.locked = false) :
    Courier.wf { c with attempts := 0 } = true := by
  obtain ⟨badge, code, -, -⟩ := c.wf_iff.mp h
  exact (Courier.wf_iff _).mpr ⟨badge, code, Nat.zero_le _, by simp [hl]⟩

/-! ### One link (R165 to R168) -/

/-- A frame in reception is within its LENGTH (R166). -/
def Receiver.inLength : Receiver → Prop
  | .body length taken => 1 ≤ length ∧ length ≤ 200 ∧ taken.length ≤ length
  | _ => True

theorem Link.wf_running_iff (l : Link) (k : LinkId) : l.wf k true = true ↔
    l.rx.inLength ∧ (∀ c, l.request = .taken c → (requestOn c).map Prod.fst = some k) ∧
      (l.isSending = true → l.rx = .hunting) ∧ (l.rateHeld = true → l.request ≠ .waiting) := by
  have rate : (!l.rateHeld || decide (l.request ≠ .waiting)) = true ↔ (l.rateHeld = true → l.request ≠ .waiting) := by
    cases l.rateHeld <;> simp
  simp only [Link.wf, Bool.and_eq_true, rate, Bool.true_or, Bool.true_and, and_true, and_assoc]
  refine and_congr ?_ ?_
  · cases l.rx <;> simp [Receiver.inLength, and_assoc]
  · rw [← and_assoc]
    refine and_congr_left' ?_
    cases h : l.request <;> simp [Link.isSending, Link.receiving, h]

/-- A link of a part that does not run hunts and waits (R172). -/
theorem Link.wf_stopped_iff (l : Link) (k : LinkId) :
    l.wf k false = true ↔ l.rx = .hunting ∧ l.request = .waiting ∧ l.rateHeld = false := by
  cases hx : l.rx <;> cases hq : l.request <;> simp [Link.wf, Link.receiving, hx, hq]

/-- The link is to be at its live divisor: the facility link while it does not send, the hatch link while it neither receives
nor sends nor holds the rate of a request (R165). -/
def Link.followsDivisor (l : Link) : LinkId → Bool
  | .facility => !l.isSending
  | .hatch => !l.receiving && !l.isSending && !l.rateHeld

/-- A link within its frame and request rules, and at the rate that it is to have. -/
structure State.LinkLaw (s : State) (k : LinkId) : Prop where
  wf : (s.link k).wf k (decide (s.phase = .running)) = true
  rate : s.started = true → (s.link k).followsDivisor k = true → (s.link k).rate = s.divisor k

theorem State.linksWf_iff (s : State) : s.linksWf ↔ ∀ k, s.LinkLaw k := by
  constructor
  · rintro ⟨wf, wf', rate, rate'⟩ k
    cases k with
    | facility => exact ⟨wf, fun hs hf => rate hs (by simpa [Link.followsDivisor, State.link] using hf)⟩
    | hatch =>
      refine ⟨wf', fun hs hf => ?_⟩
      simp only [Link.followsDivisor, State.link, Bool.and_eq_true, Bool.not_eq_true', and_assoc] at hf
      obtain ⟨hr, hn, hh⟩ := hf
      exact rate' hs hr hn hh
  · intro h
    refine ⟨(h .facility).wf, (h .hatch).wf, fun hs hf => (h .facility).rate hs ?_, fun hs hr hn hh => (h .hatch).rate hs ?_⟩
    · simpa [Link.followsDivisor, State.link] using hf
    · simp [Link.followsDivisor, State.link, hr, hn, hh]

/-- The law of a link reads the link, its live divisor and the phase. -/
theorem State.LinkLaw.congr {s t : State} {k : LinkId} (h : s.LinkLaw k) (hp : t.phase = s.phase) (hl : t.link k = s.link k)
    (hd : t.divisor k = s.divisor k) : t.LinkLaw k :=
  ⟨by rw [hl, hp]; exact h.wf, by rw [hl, hd, State.started, hp]; exact h.rate⟩

theorem State.LinkLaw.of_running {s : State} {k : LinkId} (hp : s.phase = .running) (wf : (s.link k).wf k true = true)
    (rate : (s.link k).followsDivisor k = true → (s.link k).rate = s.divisor k) : s.LinkLaw k :=
  ⟨by simpa [hp] using wf, fun _ => rate⟩

theorem State.LinkLaw.running {s : State} {k : LinkId} (h : s.LinkLaw k) (hp : s.phase = .running) :
    (s.link k).wf k true = true ∧ ((s.link k).followsDivisor k = true → (s.link k).rate = s.divisor k) :=
  ⟨by simpa [hp] using h.wf, h.rate (by simp [State.started, hp])⟩

/-! ### The manifest, the hatch link and HU's timers (R49 to R90) -/

/-- The handover timer times a manifest of this stage (R54). -/
def Stage.isTimed : Stage → Bool
  | .offered => true
  | .active => true
  | _ => false

/-- A manifest against the link, the couriers and the clock (R49, R50, R66 to R68, R76). -/
structure State.ManifestLaw (s : State) (m : Manifest) : Prop where
  wf : m.wf
  enrolled : s.enrolled m.courier = true
  present : m.stage = .active → s.hatch = .identified m.courier
  clock : m.route.isOutbound = true → s.ret.clockValid = true

/-- The handover is whole but for the fire states: the manifest, the courier on the link, and HU's timers. -/
structure State.DeskRules (s : State) : Prop where
  manifest : ∀ m, s.manifest = some m → s.ManifestLaw m
  courier : ∀ e, s.hatch = .identified e → s.enrolled e = true
  handover : s.handoverTimer.isSome = ((s.manifest.any fun m => m.stage.isTimed) || s.identified.isSome)
  release : s.releaseTimer.isSome = s.manifest.any fun m => !m.stage.isOpen
  door : s.phase = .running → s.opening.isSome = s.doorOpen

/-- The handover is whole, and none is timed under COUNTDOWN or DISCHARGED (R58, R79, R83, R88). -/
structure State.DeskLaw (s : State) : Prop extends State.DeskRules s where
  fire : ∀ m, s.manifest = some m → m.stage.isTimed = true → s.anyCountdownOrDischarged = false

theorem State.identified_eq_some (s : State) (e : Fin 16) : s.identified = some e ↔ s.hatch = .identified e := by
  unfold State.identified; cases s.hatch <;> simp

theorem State.manifestTimed_eq (s : State) :
    (s.manifestOffered || s.manifestActive) = s.manifest.any fun m => m.stage.isTimed := by
  unfold State.manifestOffered State.manifestActive
  cases s.manifest with
  | none => rfl
  | some m => cases h : m.stage <;> simp [h, Stage.isTimed]

theorem Stage.isTimed_iff (x : Stage) : x.isTimed = true ↔ x = .offered ∨ x = .active := by
  cases x <;> simp [Stage.isTimed]

theorem State.deskLaw_iff (s : State) : s.DeskLaw ↔ s.handoverLaw ∧ s.timersLaw := by
  unfold State.handoverLaw State.timersLaw
  rw [s.manifestTimed_eq]
  constructor
  · intro h
    refine ⟨⟨fun m hm => ?_, fun e he => h.courier e ((s.identified_eq_some e).mp (by simpa using he))⟩, h.handover, h.release,
      h.door⟩
    have hm : s.manifest = some m := by simpa using hm
    obtain ⟨wf, enrolled, present, clock⟩ := h.manifest m hm
    exact ⟨wf, enrolled, present, clock, fun ht => h.fire m hm ((Stage.isTimed_iff _).mpr ht)⟩
  · rintro ⟨⟨manifest, courier⟩, handover, release, door⟩
    have law (m : Manifest) (hm : s.manifest = some m) := manifest m (by simp [hm])
    refine ⟨⟨fun m hm => ?_, fun e he => courier e (by simpa using (s.identified_eq_some e).mpr he), handover, release, door⟩,
      fun m hm ht => ?_⟩
    · obtain ⟨wf, enrolled, present, clock, -⟩ := law m hm
      exact ⟨wf, enrolled, present, clock⟩
    · obtain ⟨-, -, -, -, fire⟩ := law m hm
      exact fire ((Stage.isTimed_iff _).mp ht)

/-! ### The whole law -/

/-- The couriers, the links and the handover together. -/
structure State.HallLaw (s : State) : Prop where
  couriers : CourierLaw s.ret.couriers
  links : ∀ k, s.LinkLaw k
  desk : s.DeskLaw

theorem State.Inv.hallLaw {s : State} (h : s.Inv) : s.HallLaw :=
  ⟨s.couriersWf_iff.mp h.couriers, s.linksWf_iff.mp h.links, s.deskLaw_iff.mpr ⟨h.handover, h.timers⟩⟩

/-- A running part under the law: where the requests and the events of the links, the timers and the sensors find it. -/
structure State.InService (s : State) : Prop extends State.HallLaw s where
  running : s.phase = .running

end Sys2Proof.Machine
end

section
/-! What the law of the couriers, the links and the handover reads of the part, and the updates of the desk that keep the
handover whole (R54, R62, R71, R73, R76, R79, R83). -/

namespace Sys2Proof.Machine

open Host

/-! ### What the law reads -/

/-- What the law of the couriers and the links reads of the part. -/
structure Registry where
  phase : Phase
  couriers : Vector (Option Courier) 16
  fl : Link
  hl : Link
  facilityDivisor : BitVec 8
  hatchDivisor : BitVec 8

/-- The part as the law of the couriers and the links reads it. -/
def State.registry (s : State) : Registry :=
  { phase := s.phase, couriers := s.ret.couriers, fl := s.fl, hl := s.hl
    facilityDivisor := s.live.facilityDivisor, hatchDivisor := s.live.hatchDivisor }

/-- What the handover reads of the part beside the fire states. -/
structure Desk where
  phase : Phase
  couriers : Vector (Option Courier) 16
  clockValid : Bool
  manifest : Option Manifest
  hatch : HatchState
  handoverTimer : Option Nat
  releaseTimer : Option Nat
  opening : Option Opening
  levels : BitVec 12
  inputs : Vector InputFunction 12

/-- The part as the handover reads it. -/
def State.desk (s : State) : Desk :=
  { phase := s.phase, couriers := s.ret.couriers, clockValid := s.ret.clockValid, manifest := s.manifest, hatch := s.hatch
    handoverTimer := s.handoverTimer, releaseTimer := s.releaseTimer, opening := s.opening, levels := s.levels
    inputs := s.live.inputs }

/-- A zone in this state lets no handover stand (R58, R79, R83). -/
def FireState.forbidsHandover (f : FireState) : Bool := f.isCountdown || decide (f = .discharged)

theorem State.anyCountdownOrDischarged_iff (s : State) :
    s.anyCountdownOrDischarged = true ↔ ∃ z, (s.fire z).forbidsHandover = true := by
  unfold State.anyCountdownOrDischarged
  rw [List.any_eq_true]
  exact ⟨fun ⟨z, _, h⟩ => ⟨z, h⟩, fun ⟨z, h⟩ => ⟨z, z.mem_all, h⟩⟩

/-- The second state is as the first to the couriers, the links and the desk, and no zone forbids the handover that did not
before. -/
structure State.Quiet (s t : State) : Prop where
  registry : t.registry = s.registry
  desk : t.desk = s.desk
  fire : ∀ z, (t.fire z).forbidsHandover = true → (s.fire z).forbidsHandover = true

namespace State.Quiet

protected theorem refl (s : State) : s.Quiet s := ⟨rfl, rfl, fun _ h => h⟩

protected theorem trans {s t u : State} (h : s.Quiet t) (h' : t.Quiet u) : s.Quiet u :=
  ⟨h'.registry.trans h.registry, h'.desk.trans h.desk, fun z hz => h.fire z (h'.fire z hz)⟩

theorem of_eq {s t : State} (hr : t.registry = s.registry) (hd : t.desk = s.desk) (hz : t.zones = s.zones) : s.Quiet t :=
  ⟨hr, hd, fun z h => by rwa [← State.fire_congr hz z]⟩

theorem raise {s t : State} (h : s.Quiet t) (f : EventFlag) : s.Quiet (t.raise f) := h.trans (of_eq rfl rfl rfl)

theorem raiseIf {s t : State} (h : s.Quiet t) (c : Bool) (f : EventFlag) : s.Quiet (t.raiseIf c f) :=
  h.trans (by cases c <;> exact of_eq rfl rfl rfl)

theorem setRecords (s : State) (rs : List Record) : s.Quiet (s.setRecords rs) := of_eq rfl rfl rfl

/-- One zone's live state is replaced, and the zone does not newly forbid the handover. -/
theorem setZone (s : State) (z : Zone) (v : ZoneState)
    (h : v.fire.forbidsHandover = true → (s.fire z).forbidsHandover = true) : s.Quiet (s.setZone z v) :=
  { registry := rfl, desk := rfl
    fire := fun z' h' => by
      rw [State.setZone_fire] at h'
      split at h'
      · next e => exact e ▸ h h'
      · exact h' }

theorem setFire (s : State) (z : Zone) (f : FireState)
    (h : f.forbidsHandover = true → (s.fire z).forbidsHandover = true) : s.Quiet (s.setFire z f) := setZone s z _ h

theorem setMode (s : State) (z : Zone) (m : ZoneMode) : s.Quiet (s.setMode z m) := setZone s z _ id

theorem setLoop (s : State) (z : Zone) (l : Loop) : s.Quiet (s.setLoop z l) := setZone s z _ id

/-- A zone's fire state that did not forbid the handover does not when no zone did. -/
theorem any {s t : State} (h : s.Quiet t) (ha : s.anyCountdownOrDischarged = false) : t.anyCountdownOrDischarged = false := by
  rw [Bool.eq_false_iff, Ne, State.anyCountdownOrDischarged_iff] at ha ⊢
  rintro ⟨z, hz⟩
  exact ha ⟨z, h.fire z hz⟩

end State.Quiet

/-! ### Transfer of the law -/

theorem State.LinkLaw.of_registry {s t : State} {k : LinkId} (h : s.LinkLaw k) (hr : t.registry = s.registry) : t.LinkLaw k := by
  obtain ⟨phase, -, fl, hl, facility, hatch⟩ := Registry.mk.inj hr
  cases k with
  | facility => exact h.congr phase fl facility
  | hatch => exact h.congr phase hl hatch

/-- The door follows the levels and the functions of the input lines (R62). -/
theorem State.doorOpen_congr {s t : State} (hl : t.levels = s.levels) (hi : t.live.inputs = s.live.inputs) :
    t.doorOpen = s.doorOpen := by
  rw [Bool.eq_iff_iff, State.doorOpen, State.doorOpen, State.anyAsserted_iff, State.anyAsserted_iff, hl, hi]

/-- The desk is as it was but for the phase and the door, and the opening is timed as the door stands. -/
theorem State.DeskRules.atDoor {s t : State} (hs : s.DeskRules)
    (hd : t.desk = { s.desk with phase := t.phase, opening := t.opening, levels := t.levels, inputs := t.live.inputs })
    (door : t.phase = .running → t.opening.isSome = t.doorOpen) : t.DeskRules := by
  obtain ⟨-, couriers, clock, manifest, hatch, handover, release, -⟩ := Desk.mk.inj hd
  have enrolled (e : Fin 16) : t.enrolled e = s.enrolled e := congrArg (fun v => v[e].isSome) couriers
  have identified : t.identified = s.identified := by
    unfold State.identified; rw [show t.hatch = s.hatch from hatch]
  refine ⟨fun m hm => ?_, fun e he => ?_, ?_, ?_, door⟩
  · obtain ⟨wf, henrolled, present, hclock⟩ := hs.manifest m (manifest.symm.trans hm)
    exact ⟨wf, (enrolled _).trans henrolled, fun ha => hatch.trans (present ha), fun ho => clock.trans (hclock ho)⟩
  · exact (enrolled e).trans (hs.courier e (hatch.symm.trans he))
  · rw [handover, manifest, identified]; exact hs.handover
  · rw [release, manifest]; exact hs.release

theorem State.DeskLaw.atDoor {s t : State} (hs : s.DeskLaw)
    (hd : t.desk = { s.desk with phase := t.phase, opening := t.opening, levels := t.levels, inputs := t.live.inputs })
    (hz : t.zones = s.zones) (door : t.phase = .running → t.opening.isSome = t.doorOpen) : t.DeskLaw := by
  refine ⟨hs.toDeskRules.atDoor hd door, fun m hm ht => ?_⟩
  obtain ⟨-, -, -, manifest, -⟩ := Desk.mk.inj hd
  exact (State.Quiet.any (s := { t with zones := s.zones }) (.of_eq rfl rfl hz)
    (hs.fire m (manifest.symm.trans hm) ht))

theorem State.DeskRules.of_desk {s t : State} (hs : s.DeskRules) (hd : t.desk = s.desk) : t.DeskRules := by
  obtain ⟨phase, couriers, clock, manifest, hatch, handover, release, opening, levels, inputs⟩ := Desk.mk.inj hd
  refine hs.atDoor (by rw [hd, phase, opening, levels, inputs]; rfl) fun hp => ?_
  rw [opening, State.doorOpen_congr levels inputs]
  exact hs.door (phase.symm.trans hp)

theorem State.DeskLaw.quiet {s t : State} (hs : s.DeskLaw) (h : s.Quiet t) : t.DeskLaw := by
  refine ⟨hs.toDeskRules.of_desk h.desk, fun m hm ht => h.any (hs.fire m ?_ ht)⟩
  exact (congrArg Desk.manifest h.desk).symm.trans hm

theorem State.DeskLaw.of_desk {s t : State} (hs : s.DeskLaw) (hd : t.desk = s.desk) (hz : t.zones = s.zones) : t.DeskLaw :=
  ⟨hs.toDeskRules.of_desk hd, fun m hm ht => State.Quiet.any (s := { t with zones := s.zones }) (.of_eq rfl rfl hz)
    (hs.fire m ((congrArg Desk.manifest hd).symm.trans hm) ht)⟩

/-- A change of the desk that leaves the couriers and the links. -/
theorem State.HallLaw.withDesk {s t : State} (hs : s.HallLaw) (hr : t.registry = s.registry) (hd : t.DeskLaw) : t.HallLaw :=
  have couriers : t.ret.couriers = s.ret.couriers := congrArg Registry.couriers hr
  ⟨couriers ▸ hs.couriers, fun k => (hs.links k).of_registry hr, hd⟩

theorem State.HallLaw.quiet {s t : State} (hs : s.HallLaw) (h : s.Quiet t) : t.HallLaw := hs.withDesk h.registry (hs.desk.quiet h)

theorem State.InService.withDesk {s t : State} (hs : s.InService) (hr : t.registry = s.registry) (hd : t.DeskLaw) : t.InService :=
  ⟨hs.toHallLaw.withDesk hr hd, (congrArg Registry.phase hr).trans hs.running⟩

theorem State.InService.quiet {s t : State} (hs : s.InService) (h : s.Quiet t) : t.InService :=
  hs.withDesk h.registry (hs.desk.quiet h)

/-! ### Updates of the desk -/

/-- While no manifest is timed, the handover timer times the courier on the link alone (R54). -/
theorem State.DeskRules.handover_of_untimed {s : State} (hs : s.DeskRules)
    (h : ∀ m, s.manifest = some m → m.stage.isTimed = false) : s.handoverTimer.isSome = s.identified.isSome := by
  rw [hs.handover]
  cases hm : s.manifest with
  | none => rfl
  | some m => simp [h m hm]

theorem State.DeskRules.release_of_open {s : State} (hs : s.DeskRules)
    (h : ∀ m, s.manifest = some m → m.stage.isOpen = true) : s.releaseTimer.isSome = false := by
  rw [hs.release]
  cases hm : s.manifest with
  | none => rfl
  | some m => simp [h m hm]

/-- A closure brings no courier on the link (R71). -/
theorem HatchState.of_afterClosure {h : HatchState} {cause : Cause} {e : Fin 16}
    (he : h.afterClosure cause = .identified e) : h = .identified e := by
  cases cause <;> cases h <;> simp_all [HatchState.afterClosure]

namespace State.DeskLaw

/-- No manifest is timed, so that the fire states forbid nothing. -/
theorem of_untimed {s : State} (hs : s.DeskRules) (h : ∀ m, s.manifest = some m → m.stage.isTimed = false) : s.DeskLaw :=
  ⟨hs, fun m hm ht => by simp [h m hm] at ht⟩

/-- A manifest is BUILDING where it was so or was FREE (R76 to R78). -/
theorem build {s : State} (hs : s.DeskLaw) {m : Manifest} (hm : s.ManifestLaw m) (hb : m.stage = .building)
    (hfrom : ∀ m, s.manifest = some m → m.stage = .building) : State.DeskLaw { s with manifest := some m } := by
  refine of_untimed ⟨?_, hs.courier, ?_, ?_, hs.door⟩ ?_
  · rintro _ ⟨⟩; exact { hm with }
  · simp only [Option.any_some, hb, Stage.isTimed, Bool.false_or]
    exact hs.handover_of_untimed fun m h => by rw [hfrom m h]; rfl
  · simp only [Option.any_some, hb, Stage.isOpen, Bool.not_true]
    exact hs.release_of_open fun m h => by rw [hfrom m h]; rfl
  · rintro _ ⟨⟩; rw [hb]; rfl

/-- An OFFERED or ACTIVE manifest is timed from a full length, where an open one or none stood (R79, R80, R83, R84). -/
theorem time {s : State} (hs : s.DeskLaw) {m : Manifest} (hm : s.ManifestLaw m) (ht : m.stage.isTimed = true)
    (hf : s.anyCountdownOrDischarged = false) (hfrom : ∀ m, s.manifest = some m → m.stage.isOpen = true) :
    State.DeskLaw { s.restartHandover with manifest := some m } := by
  have isOpen : m.stage.isOpen = true := by cases h : m.stage <;> simp_all [Stage.isTimed, Stage.isOpen]
  refine ⟨⟨?_, hs.courier, ?_, ?_, hs.door⟩, fun _ _ _ => hf⟩
  · rintro _ ⟨⟩; exact { hm with }
  · simp [ht]
  · simp only [Option.any_some, isOpen, Bool.not_true]
    exact hs.release_of_open hfrom

/-- The CLOSED manifest is FREE, and the release timer stops (R73). -/
theorem free {s : State} (hs : s.DeskLaw) (h : ∀ m, s.manifest = some m → m.stage.isOpen = false) :
    s.freeManifest.DeskLaw := by
  refine of_untimed ⟨nofun, hs.courier, ?_, rfl, hs.door⟩ nofun
  refine hs.handover_of_untimed fun m hm => ?_
  have := h m hm
  cases hx : m.stage <;> simp_all [Stage.isOpen, Stage.isTimed]

/-- No courier is on the link any more, and the handover timer stops, while no manifest is timed (R54, R58, R59). -/
theorem clearLink {s : State} (hs : s.DeskRules) (h : ∀ m, s.manifest = some m → m.stage.isTimed = false) :
    State.DeskLaw { s with hatch := .idle, handoverTimer := none } := by
  refine of_untimed ⟨fun m hm => ?_, nofun, ?_, hs.release, hs.door⟩ h
  · have untimed := h m hm
    exact { hs.manifest m hm with present := fun ha => by rw [ha] at untimed; cases untimed }
  · cases hm : s.manifest with
    | none => rfl
    | some m => simp [h m hm, State.identified]

/-- A courier leaves the link while no manifest is ACTIVE: the timer of an OFFERED one runs on (R59). -/
theorem endVisit {s : State} (hs : s.DeskLaw) (h : ∀ m, s.manifest = some m → m.stage ≠ .active) : s.endVisit.DeskLaw := by
  refine ⟨⟨fun m hm => ?_, nofun, ?_, hs.release, hs.door⟩, hs.fire⟩
  · exact { hs.manifest m hm with present := fun ha => absurd ha (h m hm) }
  · have inactive : s.manifestActive = false := by
      unfold State.manifestActive
      split
      · next m hm => simpa using h m hm
      · rfl
    have timed : (s.manifest.any fun m => m.stage.isTimed) = s.manifestOffered := by
      rw [← s.manifestTimed_eq, inactive, Bool.or_false]
    have handover := hs.handover
    rw [timed] at handover
    show (if s.manifestOffered = true then s.handoverTimer else none).isSome = ((s.manifest.any fun m => m.stage.isTimed) || false)
    rw [timed]
    cases ho : s.manifestOffered <;> simp [ho, handover]

/-- A LAPSED link becomes IDLE, and nothing is timed anew (R55, R59). -/
theorem endLapse {s : State} (hs : s.DeskLaw) (h : s.hatch = .lapsed) : State.DeskLaw { s with hatch := .idle } := by
  have identified : s.identified = none := by simp [State.identified, h]
  refine ⟨⟨fun m hm => ?_, nofun, ?_, hs.release, hs.door⟩, hs.fire⟩
  · exact { hs.manifest m hm with present := fun ha => by have := (hs.manifest m hm).present ha; simp [h] at this }
  · exact hs.handover.trans (by rw [identified]; rfl)

/-- A courier who is enrolled comes on the link, and an OFFERED manifest of theirs is ACTIVE (R55). -/
theorem identifyAs {s : State} (hs : s.DeskLaw) {e : Fin 16} (he : s.enrolled e = true) (hi : s.identified = none)
    (ho : s.offeredToOther e = false) : (s.identifyAs e).DeskLaw := by
  have inactive (m : Manifest) (hm : s.manifest = some m) : m.stage ≠ .active := fun ha => by
    rw [(s.identified_eq_some _).mpr ((hs.manifest m hm).present ha)] at hi; cases hi
  refine ⟨⟨fun m hm => ?_, fun e' he' => ?_, ?_, ?_, hs.door⟩, fun m hm ht => ?_⟩
  · obtain ⟨m', hm', rfl⟩ := Option.map_eq_some_iff.mp hm
    obtain ⟨wf, enrolled, -, clock⟩ := hs.manifest m' hm'
    unfold Manifest.activate
    split
    · next hx =>
      obtain ⟨size, labels, items, route, stage⟩ := wf
      refine ⟨⟨size, labels, items, route, ?_⟩, enrolled, fun _ => ?_, clock⟩
      · cases hr : m'.route <;> simp_all [Route.hasStage]
      · have courier : m'.courier = e := by simpa [State.offeredToOther, hm', hx] using ho
        exact congrArg HatchState.identified courier.symm
    · exact ⟨wf, enrolled, fun ha => absurd ha (inactive m' hm'), clock⟩
  · cases he'; exact he
  · simp [State.identifyAs, State.identified]
  · refine hs.release.trans ?_
    simp only [State.identifyAs, State.restartHandover]
    cases s.manifest with
    | none => rfl
    | some m => cases hx : m.stage <;> simp [Manifest.activate, hx, Stage.isOpen]
  · obtain ⟨m', hm', rfl⟩ := Option.map_eq_some_iff.mp hm
    refine hs.fire m' hm' ?_
    revert ht; unfold Manifest.activate; split
    · next hx => intro; rw [hx]; rfl
    · exact id

/-- An entry is written that stays enrolled, or that the manifest and the link do not name (R49, R50). -/
theorem setCourier {s : State} (hs : s.DeskLaw) (e : Fin 16) (c : Option Courier)
    (h : c.isSome = true ∨ s.courierBusy e = false) : (s.setCourier e c).DeskLaw := by
  have enrolled {e' : Fin 16} (he : s.enrolled e' = true) (hn : e' = e → s.courierBusy e = true) :
      (s.setCourier e c).enrolled e' = true := by
    simp only [State.enrolled, State.setCourier_ret_couriers, couriers_getElem_set]
    split
    · next heq => exact h.resolve_right (by simp [hn heq])
    · exact he
  refine ⟨⟨fun m hm => ?_, fun e' he' => enrolled (hs.courier e' he') fun heq => ?_, hs.handover, hs.release, hs.door⟩, hs.fire⟩
  · have law := hs.manifest m hm
    exact { law with
      enrolled := enrolled law.enrolled fun heq => by
        rw [State.courierBusy_eq]; simp [show s.manifest = some m from hm, heq] }
  · rw [State.courierBusy_eq]; simp [(s.identified_eq_some e').mpr he', heq]

/-- The manifest closes, and what it leaves timed is a courier still on the link (R54, R71). -/
theorem closeWith {s : State} (hs : s.DeskRules) {m : Manifest} (hm : s.manifest = some m) {cause : Cause}
    (hc : cause = .complete → m.stage = .active) : (s.closeWith m cause).DeskLaw := by
  have law := hs.manifest m hm
  refine of_untimed ⟨?_, fun e he => hs.courier e (HatchState.of_afterClosure he), ?_, rfl, hs.door⟩ ?_
  · rintro _ ⟨⟩
    obtain ⟨size, labels, items, route, -⟩ := law.wf
    exact ⟨⟨size, labels, items, route, by cases hr : m.route <;> simp [Route.hasStage]⟩, law.enrolled, nofun, law.clock⟩
  · show (s.handoverAfterClosure m.stage cause).isSome = (State.identified { s with hatch := s.hatch.afterClosure cause }).isSome
    cases cause with
    | complete => simp [State.handoverAfterClosure, HatchState.afterClosure, State.identified, law.present (hc rfl)]
    | cancelled =>
      have handover := hs.handover
      cases hi : s.hatch with
      | identified e =>
        have identified : s.identified = some e := (s.identified_eq_some e).mpr hi
        rw [identified] at handover
        simp only [State.handoverAfterClosure, HatchState.afterClosure, identified, Option.isNone_some, Bool.false_eq_true,
          if_false]
        split
        · rfl
        · exact handover.trans (Bool.or_true _)
      | _ => simp [State.handoverAfterClosure, HatchState.afterClosure, State.identified, hi]
    | _ => cases hi : s.hatch <;> rfl
  · rintro _ ⟨⟩; rfl

/-- An entry into COUNTDOWN leaves no handover to stand (R58, R88). -/
theorem abandonForFire {s : State} (hs : s.DeskRules) : s.abandonForFire.DeskLaw := by
  have away (h : ∀ m, s.manifest = some m → m.stage.isTimed = false) :
      State.DeskLaw (if s.identified.isSome then { s with hatch := .idle, handoverTimer := none } else s) := by
    split
    · exact clearLink hs h
    · exact of_untimed hs h
  unfold State.abandonForFire
  split
  · next m hm =>
    split
    · exact closeWith hs hm nofun
    · next hx =>
      refine away fun m' hm' => ?_
      cases hm.symm.trans hm'
      cases h : m.stage <;> simp_all [Stage.isOpen, Stage.isTimed]
  · next hm => exact away fun m hm' => by rw [hm] at hm'; cases hm'

/-- A second knock that is taken up closes the handover as it begins the countdown (R148, R152). -/
theorem secondKnock {s : State} (hs : s.DeskLaw) (z : Zone) : (s.secondKnock z).DeskLaw := by
  unfold State.secondKnock State.enterCountdown
  split
  · exact abandonForFire (hs.toDeskRules.of_desk rfl)
  · exact hs

/-- After a change of the levels or the functions of the inputs, the opening follows the door (R62). -/
theorem followDoor {s t : State} (hs : s.DeskLaw) (hp : s.phase = .running)
    (hd : t.desk = { s.desk with levels := t.levels, inputs := t.live.inputs }) (hz : t.zones = s.zones) :
    (followDoor s t).DeskLaw := by
  obtain ⟨phase, couriers, clock, manifest, hatch, handover, release, opening, -⟩ := Desk.mk.inj hd
  have same : t.desk = { s.desk with phase := t.phase, opening := t.opening, levels := t.levels, inputs := t.live.inputs } := by
    rw [phase, opening]; exact hd
  have opened (o : Option Opening) (ho : o.isSome = t.doorOpen) : State.DeskLaw { t with opening := o } :=
    hs.atDoor (congrArg (fun d => { d with opening := o }) same) hz fun _ => ho
  unfold Machine.followDoor
  split
  · next hc => exact opened none (by simpa using hc)
  · next hc =>
    have isOpen : t.doorOpen = true := by simpa using hc
    split
    · next hb => exact opened t.opening (by rw [isOpen, opening, ← hb]; exact hs.door hp)
    · exact opened (some t.newOpening) (by rw [isOpen]; rfl)

end State.DeskLaw

end Sys2Proof.Machine
end

section
/-! The links under their rules (R165 to R169, R172): what a discard, a response, a character and a whole frame leave of them,
and the link to which the request of a frame belongs. -/

namespace Sys2Proof.Machine

open Host

/-! ### Reading a link after an update -/

theorem State.setLink_link (s : State) (k k' : LinkId) (l : Link) :
    (s.setLink k l).link k' = if k' = k then l else s.link k' := by
  cases k <;> cases k' <;> rfl

@[simp] theorem State.setLink_divisor (s : State) (k k' : LinkId) (l : Link) : (s.setLink k l).divisor k' = s.divisor k' := by
  cases k <;> cases k' <;> rfl

@[simp] theorem State.setLink_desk (s : State) (k : LinkId) (l : Link) : (s.setLink k l).desk = s.desk := by cases k <;> rfl

@[simp] theorem State.settleHatchRate_desk (s : State) : s.settleHatchRate.desk = s.desk := by
  simp [State.desk]

/-! ### Wholeness of a link -/

/-- A link that hunts again is whole. -/
theorem Link.hunting_wf {l : Link} {k : LinkId} (h : l.wf k true = true) (gap : Nat) :
    Link.wf { l with rx := .hunting, gapLeft := gap } k true = true := by
  obtain ⟨-, taken, -, held⟩ := (Link.wf_running_iff _ _).mp h
  exact (Link.wf_running_iff _ _).mpr ⟨trivial, taken, fun _ => rfl, held⟩

theorem Link.sending_wf (l : Link) (k : LinkId) (gap : Nat) (r : Response) :
    Link.wf { l with rx := .hunting, gapLeft := gap, request := .sending r } k true = true :=
  (Link.wf_running_iff _ _).mpr ⟨trivial, nofun, fun _ => rfl, fun _ => nofun⟩

theorem Link.followsDivisor_of_sending {l : Link} (h : l.isSending = true) (k : LinkId) : l.followsDivisor k = false := by
  cases k <;> simp [Link.followsDivisor, h]

/-- A link at start-up is whole and at its divisor (R172). -/
theorem Link.atStart_wf (d : BitVec 8) (k : LinkId) : (Link.atStart d).wf k false = true :=
  (Link.wf_stopped_iff _ _).mpr ⟨rfl, rfl, rfl⟩

/-- A link that hunts and waits as the part stopped or started is whole as the part runs. -/
theorem Link.wf_of_stopped {l : Link} {k : LinkId} (h : l.wf k false = true) : l.wf k true = true := by
  obtain ⟨rx, request, held⟩ := (Link.wf_stopped_iff _ _).mp h
  refine (Link.wf_running_iff _ _).mpr ⟨by rw [rx]; trivial, fun c hc => ?_, fun _ => rx, fun hh => ?_⟩
  · rw [request] at hc; cases hc
  · rw [held] at hh; cases hh

/-! ### A running part but for one link -/

/-- A running part that is under the law but for one of its links. -/
structure State.ServesBeside (s : State) (k : LinkId) : Prop where
  running : s.phase = .running
  couriers : CourierLaw s.ret.couriers
  others : ∀ k', k' ≠ k → s.LinkLaw k'
  desk : s.DeskLaw

theorem State.InService.servesBeside {s : State} (hs : s.InService) (k : LinkId) : s.ServesBeside k :=
  ⟨hs.running, hs.couriers, fun k' _ => hs.links k', hs.desk⟩

namespace State.ServesBeside

/-- The link is written, however. -/
theorem setLink {s : State} {k : LinkId} (hs : s.ServesBeside k) (l : Link) : (s.setLink k l).ServesBeside k :=
  { running := by simpa using hs.running
    couriers := by simpa using hs.couriers
    others := fun k' hne => (hs.others k' hne).congr (by simp) (by simp [State.setLink_link, hne]) (by simp)
    desk := hs.desk.of_desk (by simp) (by simp) }

/-- With the one link under its rules too, the part is under the law. -/
theorem inService {s : State} {k : LinkId} (hs : s.ServesBeside k) (wf : (s.link k).wf k true = true)
    (rate : (s.link k).followsDivisor k = true → (s.link k).rate = s.divisor k) : s.InService :=
  { couriers := hs.couriers, desk := hs.desk, running := hs.running
    links := fun k' => by
      by_cases h : k' = k
      · subst h; exact .of_running hs.running wf rate
      · exact hs.others k' h }

/-- The link is written under its rules. -/
theorem setLink_lawful {s : State} {k : LinkId} (hs : s.ServesBeside k) {l : Link} (wf : l.wf k true = true)
    (rate : l.followsDivisor k = true → l.rate = s.divisor k) : (s.setLink k l).InService :=
  (hs.setLink l).inService (by simpa using wf) (by simpa using rate)

/-- The hatch link takes its divisor when it is free to (R165). -/
theorem settle {s : State} (hs : s.ServesBeside .hatch) (wf : s.hl.wf .hatch true = true) : s.settleHatchRate.InService := by
  rcases s.settleHatchRate_cases with ⟨busy, h⟩ | ⟨-, h⟩
  · rw [h]
    refine hs.inService wf fun hf => ?_
    simp_all [Link.followsDivisor, State.link]
  · rw [h]
    refine hs.setLink_lawful (l := { s.hl with rate := s.live.hatchDivisor }) ?_ fun _ => rfl
    obtain ⟨rx, taken, sending, held⟩ := (Link.wf_running_iff _ _).mp wf
    exact (Link.wf_running_iff _ _).mpr ⟨rx, taken, sending, held⟩

/-- A frame in reception is discarded (R167): the facility link stays at its rate, the hatch link may take a new one. -/
theorem discardFrame {s : State} {k : LinkId} (hs : s.ServesBeside k)
    (wf : Link.wf { s.link k with rx := .hunting, gapLeft := 0 } k true = true)
    (rate : k = .facility → (s.link k).isSending = false → (s.link k).rate = s.divisor k) : (s.discardFrame k).InService := by
  cases k with
  | facility =>
    refine State.InService.quiet (hs.setLink_lawful wf fun hf => rate rfl ?_) (.raise (.refl _) _)
    simpa [Link.followsDivisor, Link.isSending] using hf
  | hatch =>
    have hunts := hs.setLink { s.link .hatch with rx := .hunting, gapLeft := 0 }
    exact settle ⟨hunts.running, hunts.couriers, fun k' hne => (hunts.others k' hne).of_registry rfl,
      hunts.desk.quiet (.raise (.refl _) _)⟩ wf

/-- A response begins, whatever the link was at (R168). -/
theorem reply {s : State} {k : LinkId} (hs : s.ServesBeside k) (r : Response) : (s.reply k r).InService := by
  have sends := hs.setLink { s.link k with request := .sending r }
  unfold State.reply
  dsimp only
  split
  · refine sends.discardFrame ?_ fun _ hn => ?_
    · rw [State.setLink_link_same]; exact (s.link k).sending_wf k 0 r
    · rw [State.setLink_link_same] at hn; cases hn
  · next hr =>
    have hx : (s.link k).rx = .hunting := by simpa [Link.receiving] using hr
    refine hs.setLink_lawful ?_ fun hf => ?_
    · have := (s.link k).sending_wf k (s.link k).gapLeft r
      rwa [← hx] at this
    · rw [Link.followsDivisor_of_sending rfl] at hf; cases hf

theorem answered {s : State} {k : LinkId} (hs : s.ServesBeside k) (code : Byte) (x : Status) (results : List Byte) :
    (s.answered k code x results).InService := hs.reply _

end State.ServesBeside

/-! ### The link of a request (R169) -/

/-- Whatever request is read belongs to a link. -/
structure ReadsFor (k : LinkId) (o : Option Instr) : Prop where
  link : ∀ i, o = some i → (requestOn i).map Prod.fst = some k

theorem ReadsFor.none (k : LinkId) : ReadsFor k Option.none := ⟨nofun⟩

theorem ReadsFor.bind {α : Type} {k : LinkId} {o : Option α} {f : α → Option Instr} (h : ∀ a, ReadsFor k (f a)) :
    ReadsFor k (o >>= f) := by
  cases o with
  | none => exact .none k
  | some a => exact h a

theorem ReadsFor.noField {k : LinkId} {i : Instr} (h : (requestOn i).map Prod.fst = some k) (ps : List Byte) :
    ReadsFor k (noField i ps) := by
  unfold Machine.noField
  split
  · exact ⟨fun _ hi => Option.some.inj hi ▸ h⟩
  · exact .none k

theorem ReadsFor.oneField {α : Type} {k : LinkId} {p : List Byte → Parsed α} {f : α → Instr}
    (h : ∀ a, (requestOn (f a)).map Prod.fst = some k) (ps : List Byte) : ReadsFor k (oneField p f ps) := by
  unfold Machine.oneField
  split
  · exact ⟨fun _ hi => Option.some.inj hi ▸ h _⟩
  · exact .none k

theorem ReadsFor.twoFields {α β : Type} {k : LinkId} {p : List Byte → Parsed α} {q : List Byte → Parsed β} {f : α → β → Instr}
    (h : ∀ a b, (requestOn (f a b)).map Prod.fst = some k) (ps : List Byte) : ReadsFor k (twoFields p q f ps) :=
  .bind fun x => .oneField (h x.1) x.2

theorem ReadsFor.threeFields {α β γ : Type} {k : LinkId} {p : List Byte → Parsed α} {q : List Byte → Parsed β}
    {r : List Byte → Parsed γ} {f : α → β → γ → Instr} (h : ∀ a b c, (requestOn (f a b c)).map Prod.fst = some k)
    (ps : List Byte) : ReadsFor k (threeFields p q r f ps) :=
  .bind fun x => .twoFields (h x.1) x.2

/-- The link of a request code: the hatch link's codes are those from 0x60 (R169). -/
def linkOfCode (n : Nat) : LinkId := if n < 0x60 then .facility else .hatch

theorem eq_linkOfCode {k : LinkId} {code : Byte} (h : k.hasCode code = true) : k = linkOfCode code.toNat := by
  have mem : code.toNat ∈ k.codes := by simpa [LinkId.hasCode] using h
  have facility : ∀ n ∈ LinkId.facility.codes, n < 0x60 := by decide
  have hatch : ∀ n ∈ LinkId.hatch.codes, ¬ n < 0x60 := by decide
  cases k with
  | facility => exact (if_pos (facility _ mem)).symm
  | hatch => exact (if_neg (hatch _ mem)).symm

/-! The six requests of more than three fields, and DECLARE, whose values depend on its presence byte. -/

theorem ReadsFor.openManifest (ps : List Byte) : ReadsFor .facility (readOpenManifest ps) :=
  .bind fun x => .threeFields (fun _ _ _ => rfl) x.2

theorem ReadsFor.setClimate (ps : List Byte) : ReadsFor .facility (readSetClimate ps) :=
  .bind fun _ => .bind fun _ => .bind fun _ => .bind fun _ => .bind fun _ => .bind fun _ => .bind fun x =>
    .threeFields (fun _ _ _ => rfl) x.2

theorem ReadsFor.setLoop (ps : List Byte) : ReadsFor .facility (readSetLoop ps) :=
  .bind fun _ => .bind fun _ => .bind fun x => .threeFields (fun _ _ _ => rfl) x.2

theorem ReadsFor.clearLoopFlags (ps : List Byte) : ReadsFor .facility (readClearLoopFlags ps) :=
  .bind fun x => .threeFields (fun _ _ _ => rfl) x.2

theorem ReadsFor.setRelease (ps : List Byte) : ReadsFor .facility (readSetRelease ps) :=
  .bind fun _ => .bind fun x => .threeFields (fun _ _ _ => rfl) x.2

theorem ReadsFor.setLineFunction (ps : List Byte) : ReadsFor .facility (readSetLineFunction ps) :=
  .bind fun x => .threeFields (fun _ _ _ => rfl) x.2

theorem ReadsFor.declare (ps : List Byte) : ReadsFor .hatch (readDeclare ps) :=
  .bind fun x => .threeFields (fun _ _ _ => rfl) x.2

/-- The request that a frame's code and parameters spell belongs to the link of the code (R169): each row of the table reads
its fields into one request. -/
theorem requestOf_readsFor (code : Byte) (ps : List Byte) : ReadsFor (linkOfCode code.toNat) (requestOf code ps) := by
  unfold requestOf
  generalize code.toNat = n
  split
  all_goals
    simp only [linkOfCode, Nat.reduceLT, if_true, if_false]
    apply_rules [ReadsFor.openManifest, ReadsFor.setClimate, ReadsFor.setLoop, ReadsFor.clearLoopFlags, ReadsFor.setRelease,
      ReadsFor.setLineFunction, ReadsFor.declare, ReadsFor.none, ReadsFor.noField, ReadsFor.oneField, ReadsFor.twoFields, ReadsFor.threeFields]
  all_goals
    intros
    rfl

theorem requestOn_of_requestOf {k : LinkId} {code : Byte} {ps : List Byte} {i : Instr} (hc : k.hasCode code = true)
    (h : requestOf code ps = some i) : (requestOn i).map Prod.fst = some k :=
  ((requestOf_readsFor code ps).link i h).trans (congrArg some (eq_linkOfCode hc).symm)

end Sys2Proof.Machine
end

section
/-! The events of the links keep the law (R165 to R169, R172): the characters of a frame, the frame when it is whole, its
discard, and the end of a response. -/

namespace Sys2Proof.Machine

open Host

namespace State.InService

/-- The facility link is at its divisor while it does not send (R165). -/
theorem facility_rate {s : State} (hs : s.InService) {k : LinkId} (hk : k = .facility) (hn : (s.link k).isSending = false) :
    (s.link k).rate = s.divisor k := by
  subst hk
  exact ((hs.links _).running hs.running).2 (by simp [Link.followsDivisor, hn])

theorem link_wf {s : State} (hs : s.InService) (k : LinkId) : (s.link k).wf k true = true :=
  ((hs.links k).running hs.running).1

theorem discardFrame {s : State} (hs : s.InService) (k : LinkId) : (s.discardFrame k).InService :=
  (hs.servesBeside k).discardFrame (Link.hunting_wf (hs.link_wf k) 0) fun hk => hs.facility_rate hk

/-- The frame in reception, if any, is discarded (R167). -/
theorem discardIf {s : State} (hs : s.InService) (k : LinkId) (c : Bool) : (if c then s.discardFrame k else s).InService := by
  split
  · exact hs.discardFrame k
  · exact hs

/-! ### Characters (R166, R167) -/

/-- A link that does not send is in reception of a frame within its LENGTH. -/
theorem setReceiver {s : State} (hs : s.InService) {k : LinkId} (hn : (s.link k).isSending = false) {rx : Receiver}
    (hl : rx.inLength) (hr : rx ≠ .hunting) : (s.setReceiver k rx).InService := by
  obtain ⟨-, taken, -, held⟩ := (Link.wf_running_iff _ _).mp (hs.link_wf k)
  refine (hs.servesBeside k).setLink_lawful ((Link.wf_running_iff _ _).mpr ⟨hl, taken, fun h => ?_, held⟩) fun hf => ?_
  · exact absurd (hn.symm.trans h) (by simp)
  · cases k with
    | facility => exact hs.facility_rate rfl hn
    | hatch => simp [Link.followsDivisor, Link.receiving, hr] at hf

end State.InService

/-- A whole frame on a link that waits: the link answers it, or holds its request TAKEN, at the rate at which it came (R165,
R168, R169). -/
theorem State.ServesBeside.frameArrives {s : State} {k : LinkId} (hs : s.ServesBeside k) (hx : (s.link k).rx = .hunting)
    (hw : (s.link k).request = .waiting) (hrate : k = .facility → (s.link k).rate = s.divisor k) (code : Byte)
    (ps : List Byte) : (s.frameArrives k code ps).InService := by
  unfold State.frameArrives State.linkAnswers
  split
  · exact hs.reply _
  · next hc =>
    split
    · exact hs.reply _
    · next i hi =>
      refine hs.setLink_lawful ((Link.wf_running_iff _ _).mpr ⟨?_, fun c h => ?_, nofun, fun _ => nofun⟩) fun hf => ?_
      · rw [hx]; trivial
      · cases h; exact requestOn_of_requestOf (by simpa using hc) hi
      · cases k with
        | facility => exact hrate rfl
        | hatch => simpa [Link.followsDivisor] using ((Bool.and_eq_true _ _).mp hf).2

namespace State.InService

/-- A whole frame on a link with no frame in reception (R167 to R169). -/
theorem frameCompletes {s : State} (hs : s.InService) {k : LinkId} (hx : (s.link k).rx = .hunting) (code : Byte)
    (ps : List Byte) : (s.frameCompletes k code ps).InService := by
  unfold State.frameCompletes
  split
  · next hw => exact (hs.servesBeside k).frameArrives hx hw (fun hk => hs.facility_rate hk (by simp [Link.isSending, hw])) code ps
  · exact hs.discardFrame k
  · exact hs

/-- The characters of a frame are all there: it is discarded, or taken whole (R167). -/
theorem checkFrame {s : State} (hs : s.InService) {k : LinkId} (hn : (s.link k).isSending = false) (length : Nat)
    (taken : List Byte) : (s.checkFrame k length taken).InService := by
  unfold State.checkFrame
  split
  · exact hs.discardFrame k
  · split
    · exact hs.discardFrame k
    · next code ps _ =>
      cases hq : (s.link k).request with
      | taken c => exact hs.discardFrame k
      | sending r => simp [Link.isSending, hq] at hn
      | waiting =>
        have ends : ((s.endReception k).link k).request = .waiting := by simpa [State.endReception] using hq
        dsimp only
        rw [State.frameCompletes, ends]
        refine ((hs.servesBeside k).setLink _).frameArrives (by simp) ends (fun hk => ?_) code ps
        simpa using hs.facility_rate hk hn

theorem takeCharacter {s : State} (hs : s.InService) {k : LinkId} (hn : (s.link k).isSending = false) (c : Byte) :
    (s.takeCharacter k c).InService := by
  unfold State.takeCharacter
  split
  · split
    · exact hs.setReceiver hn trivial nofun
    · exact hs
  · split
    · exact hs.discardFrame k
    · next h => exact hs.setReceiver hn ⟨by omega, by omega, Nat.zero_le _⟩ nofun
  · next length taken hx =>
    obtain ⟨inLength, -⟩ := (Link.wf_running_iff _ _).mp (hs.link_wf k)
    rw [hx] at inLength
    obtain ⟨lower, upper, fits⟩ := inLength
    split
    · exact hs.checkFrame hn length _
    · next h =>
      simp only [List.length_append, List.length_cons, List.length_nil] at h
      exact hs.setReceiver hn ⟨lower, upper, by simp; omega⟩ nofun

theorem character {s : State} (hs : s.InService) (k : LinkId) (c : Byte) (ok : Bool) : (s.character k c ok).InService := by
  unfold State.character
  split
  · exact hs
  · next hn =>
    split
    · exact hs.takeCharacter (by simpa using hn) c
    · exact hs.discardIf k _

/-- A response has been sent: the link waits, at its divisor (R165, R168). -/
theorem responseEnds {s : State} (hs : s.InService) (k : LinkId) : (s.responseEnds k).InService := by
  unfold State.responseEnds
  split
  · exact (hs.servesBeside k).setLink_lawful ((Link.wf_running_iff _ _).mpr ⟨trivial, nofun, fun _ => rfl, nofun⟩) fun _ => rfl
  · exact hs

/-- A frame that completes on its own, with none in reception (R169). -/
theorem unknownRequest {s : State} (hs : s.InService) (k : LinkId) (code : Byte) (ps : List Byte) :
    (if (s.link k).receiving then s else s.frameCompletes k code ps).InService := by
  split
  · exact hs
  · next hr => exact hs.frameCompletes (by simpa [Link.receiving] using hr) code ps

end State.InService

/-! ### What a command does beside its owner's or its timer's work -/

namespace State.HallLaw

/-- A request keeps the law when its owner block leaves the part in service but for the request's own link, which then sends
the answer: an overrun and a lost frame touch the link alone (R168). -/
theorem request_beside {s t : State} (hs : s.HallLaw) {k : LinkId} {code : Byte} {c : Instr} {owner : State → Answer}
    (h : takeRequest k code c owner s = .next t) (ho : s.InService → (owner s).state.ServesBeside k) : t.HallLaw := by
  by_cases hp : s.phase = .running
  · rcases takeRequest_cases s k code c owner with ⟨-, he⟩ | he | he <;> cases he.symm.trans h
    · exact ((ho ⟨hs, hp⟩).answered _ _ _).toHallLaw
    · exact (State.InService.discardFrame ⟨hs, hp⟩ k).toHallLaw
    · exact hs
  · cases (takeRequest_notRunning hp).symm.trans h; exact hs

/-- A request keeps the law when its owner block does. -/
theorem request {s t : State} (hs : s.HallLaw) {k : LinkId} {code : Byte} {c : Instr} {owner : State → Answer}
    (h : takeRequest k code c owner s = .next t) (ho : s.InService → (owner s).state.InService) : t.HallLaw :=
  hs.request_beside h fun hs => (ho hs).servesBeside k

/-- A request whose owner block leaves the couriers, the links and the handover alone keeps the law. -/
theorem request_quiet {s t : State} (hs : s.HallLaw) {k : LinkId} {code : Byte} {c : Instr} {owner : State → Answer}
    (h : takeRequest k code c owner s = .next t) (ho : s.Quiet (owner s).state) : t.HallLaw :=
  hs.request h fun hs => hs.quiet ho

/-- An event of the running part keeps the law when its effect does. -/
theorem event {s t : State} (hs : s.HallLaw) {f : State → State} (h : whileRunning f s = .next t)
    (hf : s.InService → (f s).InService) : t.HallLaw := by
  unfold whileRunning at h
  split at h <;> cases h
  · next hp => exact (hf ⟨hs, hp⟩).toHallLaw
  · exact hs

/-- A timer's event keeps the law when its effect does. -/
theorem timed {s t : State} (hs : s.HallLaw) {left : State → Nat} {f : State → State} (h : whenDue left f s = .next t)
    (hf : s.InService → (f s).InService) : t.HallLaw :=
  hs.event h fun hs => by
    split
    · exact hf hs
    · exact hs

end State.HallLaw

end Sys2Proof.Machine
end

section
/-! The commands that leave the couriers, the links and the handover alone: the requests of the custody table, of the zones,
the loops and the settings, the reports, and the samples and expiries that begin no countdown. -/

namespace Sys2Proof.Machine

open Host

namespace State.Quiet

/-! ### The custody table (R8 to R18, R33) -/

theorem ownEnroll (label : Label) (cls : Byte) (slot : BitVec 16) (s : State) :
    s.Quiet (ownEnroll label cls slot s).state := by
  unfold Machine.ownEnroll; repeat' split
  all_goals exact of_eq rfl rfl rfl

theorem ownLookup (label : Label) (s : State) : s.Quiet (ownLookup label s).state :=
  withRecord_keeps (.refl s) fun _ _ => .refl s

theorem ownSlotQuery (slot : BitVec 16) (s : State) : s.Quiet (ownSlotQuery slot s).state := by
  unfold Machine.ownSlotQuery; repeat' split
  all_goals exact .refl s

theorem ownNextLabel (label : Label) (s : State) : s.Quiet (ownNextLabel label s).state := by
  unfold Machine.ownNextLabel; repeat' split
  all_goals exact .refl s

theorem ownPlace (label : Label) (slot : BitVec 16) (s : State) : s.Quiet (ownPlace label slot s).state := by
  unfold Machine.ownPlace; split
  · exact .refl s
  · refine withRecord_keeps (.refl s) fun r _ => ?_
    repeat' split
    all_goals exact of_eq rfl rfl rfl

theorem ownRelocate (label : Label) (slot : BitVec 16) (s : State) : s.Quiet (ownRelocate label slot s).state := by
  unfold Machine.ownRelocate; split
  · exact .refl s
  · refine withRecord_keeps (.refl s) fun r _ => ?_
    repeat' split
    all_goals exact of_eq rfl rfl rfl

theorem ownUnbind (label : Label) (s : State) : s.Quiet (ownUnbind label s).state :=
  withRecord_keeps (.refl s) fun r _ => by split <;> exact of_eq rfl rfl rfl

theorem ownRetire (label : Label) (s : State) : s.Quiet (ownRetire label s).state :=
  withRecord_keeps (.refl s) fun r _ => by split <;> exact of_eq rfl rfl rfl

theorem ownClearMark (label : Label) (mark : Byte) (s : State) : s.Quiet (ownClearMark label mark s).state := by
  unfold Machine.ownClearMark; split
  · exact .refl s
  · exact withRecord_keeps (.refl s) fun r _ => by split <;> exact of_eq rfl rfl rfl

theorem ownSetClass (label : Label) (cls : Byte) (s : State) : s.Quiet (ownSetClass label cls s).state := by
  unfold Machine.ownSetClass; split
  · exact .refl s
  · exact withRecord_keeps (.refl s) fun _ _ => of_eq rfl rfl rfl

theorem ownExtendDue (label : Label) (hours : BitVec 16) (s : State) : s.Quiet (ownExtendDue label hours s).state := by
  unfold Machine.ownExtendDue; split
  · exact .refl s
  · refine withRecord_keeps (.refl s) fun r _ => ?_
    repeat' split
    all_goals exact of_eq rfl rfl rfl

theorem ownSetBoundary (boundary value : Byte) (s : State) : s.Quiet (ownSetBoundary boundary value s).state := by
  unfold Machine.ownSetBoundary; dsimp only; repeat' split
  all_goals exact of_eq rfl rfl rfl

/-! ### Reports -/

theorem ownReadManifest (s : State) : s.Quiet (ownReadManifest s).state := by
  unfold Machine.ownReadManifest; split <;> exact .refl s

theorem ownReadCourier (entry : Byte) (s : State) : s.Quiet (ownReadCourier entry s).state := by
  unfold Machine.ownReadCourier; split <;> exact .refl s

theorem ownReadZone (zone : Byte) (s : State) : s.Quiet (ownReadZone zone s).state := by
  unfold Machine.ownReadZone; split <;> exact .refl s

/-! ### Zones, climate and loops -/

theorem changeMode (s : State) (z : Zone) (m : ZoneMode) : s.Quiet (s.changeMode z m) := by
  unfold State.changeMode; split
  · exact .refl s
  · exact setZone s z _ (by exact id)

theorem ownSetZoneMode (zone mode : Byte) (s : State) : s.Quiet (ownSetZoneMode zone mode s).state := by
  unfold Machine.ownSetZoneMode; repeat' split
  · exact .refl s
  · exact changeMode s _ _
  · exact .refl s

theorem ownSetStartMode (zone mode : Byte) (s : State) : s.Quiet (ownSetStartMode zone mode s).state := by
  unfold Machine.ownSetStartMode; repeat' split
  all_goals exact of_eq rfl rfl rfl

theorem ownResetDose (zone : Byte) (s : State) : s.Quiet (ownResetDose zone s).state := by
  unfold Machine.ownResetDose; repeat' split
  all_goals exact of_eq rfl rfl rfl

/-- New settings of a zone, and its live state replaced without a change of its fire state. -/
theorem setSettings_setZone (s : State) (z : Zone) (c : ZoneSettings) (v : ZoneState)
    (h : v.fire.forbidsHandover = true → (s.fire z).forbidsHandover = true) : s.Quiet ((s.setSettings z c).setZone z v) :=
  (of_eq rfl rfl rfl : s.Quiet (s.setSettings z c)).trans (setZone _ z v h)

theorem ownSetClimate (zone : Byte) (c : ClimateSettings) (s : State) : s.Quiet (ownSetClimate zone c s).state := by
  unfold Machine.ownSetClimate; repeat' split
  · exact .refl s
  · exact .refl s
  · exact .refl s
  · exact .refl s
  · exact setSettings_setZone s _ _ _ (by exact id)

theorem ownSetTrim (zone trimT trimH : Byte) (s : State) : s.Quiet (ownSetTrim zone trimT trimH s).state := by
  unfold Machine.ownSetTrim; repeat' split
  · exact .refl s
  · exact .refl s
  · exact .refl s
  · exact setSettings_setZone s _ _ _ (by exact id)

theorem ownSetConditioning (kT kH base : Byte) (s : State) : s.Quiet (ownSetConditioning kT kH base s).state := by
  unfold Machine.ownSetConditioning; split <;> exact of_eq rfl rfl rfl

theorem ownSetLoop (loop : Byte) (openMax normalMax alarmMax : BitVec 16) (policy capture : Byte) (s : State) :
    s.Quiet (ownSetLoop loop openMax normalMax alarmMax policy capture s).state := by
  unfold Machine.ownSetLoop; repeat' split
  · exact .refl s
  · exact .refl s
  · exact .refl s
  · exact .refl s
  · exact setSettings_setZone s _ _ _ (by exact id)
  · exact .refl s

theorem ownLoopReturn (loop : Byte) (s : State) : s.Quiet (ownLoopReturn loop s).state := by
  unfold Machine.ownLoopReturn; dsimp only; repeat' split
  · exact .refl s
  · exact .refl s
  · exact (setLoop s _ _).raiseIf _ _

theorem ownClearLoopFlags (loop : Byte) (o h a : Bool) (s : State) : s.Quiet (ownClearLoopFlags loop o h a s).state := by
  unfold Machine.ownClearLoopFlags; split
  · exact .refl s
  · exact setLoop s _ _

/-! ### The fire sequence and the bank -/

theorem ownAbortRelease (zone : Byte) (s : State) : s.Quiet (ownAbortRelease zone s).state := by
  unfold Machine.ownAbortRelease; repeat' split
  · exact .refl s
  · exact .refl s
  · exact setFire s _ _ nofun

theorem ownResetAlarm (zone : Byte) (s : State) : s.Quiet (ownResetAlarm zone s).state := by
  unfold Machine.ownResetAlarm; repeat' split
  · exact .refl s
  · exact .refl s
  · exact setFire s _ _ nofun

theorem writeBank (s : State) (b : BankRecord) : s.Quiet (s.writeBank b) := by
  unfold State.writeBank; split <;> exact of_eq rfl rfl rfl

theorem ownBankReloaded (s : State) : s.Quiet (ownBankReloaded s).state := by
  unfold Machine.ownBankReloaded; repeat' split
  · exact .refl s
  · exact .refl s
  · exact (of_eq (by rfl) (by rfl) (by rfl)).trans (writeBank { s with bank := .ready } _)

theorem ownSetRelease (scope b0 b1 b2 b3 : Byte) (s : State) : s.Quiet (ownSetRelease scope b0 b1 b2 b3 s).state := by
  unfold Machine.ownSetRelease; repeat' split
  all_goals exact of_eq rfl rfl rfl

theorem alarmSample (s : State) (z : Zone) : s.Quiet (s.alarmSample z) := by
  unfold State.alarmSample
  split
  · exact (setZone s z _ (by nofun)).raise _
  · exact (setFire s z _ (by nofun)).raise _
  · exact .refl s

theorem windowExpiry (s : State) (z : Zone) : s.Quiet (s.windowExpiry z) := by
  unfold State.windowExpiry
  split
  · exact setFire s z _ nofun
  · exact .refl s

/-- A zone that forbade the handover forbids it DISCHARGED (R58, R156). -/
theorem discharge (s : State) (z : Zone) (h : (s.fire z).forbidsHandover = true) : s.Quiet (s.discharge z) := by
  set u : State := State.writeBank { s with bank := .committed z (s.live.release.pulse * 1000) } .spent with hu
  have zones : u.zones = s.zones := congrArg Plant.zones (State.writeBank_plant _ _)
  have committed : s.Quiet u := (of_eq (by rfl) (by rfl) (by rfl)).trans (writeBank _ _)
  have discharged : s.Quiet (u.setFire z .discharged) :=
    committed.trans (setFire u z _ fun _ => by rwa [State.fire_congr zones z])
  exact (discharged.trans (setRecords _ _)).raise _

theorem countdownExpiry (s : State) (z : Zone) : s.Quiet (s.countdownExpiry z) := by
  unfold State.countdownExpiry
  split
  · next hf =>
    split
    · exact discharge s z (by rw [hf]; rfl)
    · exact (setFire s z .starved nofun).raise _
  · exact .refl s

theorem pulseEnd (s : State) : s.Quiet s.pulseEnd := by
  unfold State.pulseEnd; split <;> exact of_eq rfl rfl rfl

/-- The abort input holds and releases countdowns; it begins none (R153). -/
theorem abortChanged (s : State) (asserted : Bool) : s.Quiet (s.abortChanged asserted) :=
  { registry := rfl, desk := rfl
    fire := fun z h => by
      simp only [State.abortChanged, State.fire, PerZone.get_tabulate] at h ⊢
      revert h; cases (s.zones.get z).fire <;> exact id }

/-! ### Samples that begin no countdown -/

theorem account (s : State) (z : Zone) (weight : Nat) : s.Quiet (s.account z weight) := by
  unfold State.account
  extract_lets c a dose next t
  have ht : s.Quiet t := of_eq rfl rfl rfl
  split
  · exact (ht.trans (setRecords t _)).raise _
  · exact ht.raiseIf _ _

theorem sensorFault (s : State) (z : Zone) : s.Quiet (s.sensorFault z) := (setZone s z _ (by exact id)).raiseIf _ _

theorem freeze (s : State) (z : Zone) : s.Quiet (s.freeze z) := setMode s z _

theorem sampleLoop (s : State) (z : Zone) (count : BitVec 12) : s.Quiet (s.sampleLoop z count) := by
  unfold State.sampleLoop
  extract_lets v c e s1 s2
  have h1 : s.Quiet s1 := (((setZone s z _ (by exact id)).raiseIf _ _).raiseIf _ _).raiseIf _ _
  have h2 : s.Quiet s2 := by
    unfold s2; split
    · exact h1.trans (freeze s1 z)
    · exact h1
  split
  · exact h2.trans (alarmSample s2 z)
  · exact h2

/-! ### Events, ticks, the clock and the settings -/

theorem overdueCheck (s : State) : s.Quiet s.overdueCheck := (setRecords s _).raiseIf _ _

theorem minuteTick (s : State) : s.Quiet s.minuteTick := by
  unfold State.minuteTick; split
  · exact (setRecords s _).raiseIf _ _
  · exact .refl s

/-- The hour tick makes the overdue check while the clock is valid (R21). -/
theorem hourTick (s : State) : s.Quiet (if s.ret.clockValid then s.overdueCheck else s) := by
  split
  · exact overdueCheck s
  · exact .refl s

theorem clockSecond (s : State) : s.Quiet s.clockSecond := by
  unfold State.clockSecond; repeat' split
  all_goals exact of_eq rfl rfl rfl

theorem storeComplete (s : State) : s.Quiet s.storeComplete := by
  unfold State.storeComplete; split <;> exact of_eq rfl rfl rfl

theorem ownSetEventEnable (enables : BitVec 24) (s : State) : s.Quiet (ownSetEventEnable enables s).state := by
  unfold Machine.ownSetEventEnable; split <;> exact of_eq rfl rfl rfl

theorem ownSetLine (line : Byte) (level : Bool) (s : State) : s.Quiet (ownSetLine line level s).state := by
  unfold Machine.ownSetLine; repeat' split
  all_goals exact of_eq rfl rfl rfl

theorem ownSetExpect (levels : BitVec 16) (s : State) : s.Quiet (ownSetExpect levels s).state := by
  unfold Machine.ownSetExpect; split
  · exact .refl s
  · exact (of_eq (by rfl) (by rfl) (by rfl)).raiseIf _ _

theorem ownSetTimers (h r o : BitVec 16) (s : State) : s.Quiet (ownSetTimers h r o s).state := by
  unfold Machine.ownSetTimers; split <;> exact of_eq rfl rfl rfl

theorem ownSetClassLimit (cls : Byte) (limit : BitVec 16) (s : State) : s.Quiet (ownSetClassLimit cls limit s).state := by
  unfold Machine.ownSetClassLimit; repeat' split
  all_goals exact of_eq rfl rfl rfl

theorem ownStoreSettings (s : State) : s.Quiet (ownStoreSettings s).state := by
  unfold Machine.ownStoreSettings; split <;> exact of_eq rfl rfl rfl

end State.Quiet

end Sys2Proof.Machine
end

section
/-! The requests of the manifest, the hatch and the courier table keep the law (R49 to R59, R73, R76 to R90). -/

namespace Sys2Proof.Machine

open Host

/-! ### A manifest by itself (R66 to R68) -/

theorem State.building_eq_some {s : State} {m : Manifest} (h : s.building = some m) :
    s.manifest = some m ∧ m.stage = .building := by
  unfold State.building at h
  split at h
  · next hm => rw [Option.ite_none_right_eq_some] at h; obtain ⟨hstage, ⟨⟩⟩ := h; exact ⟨hm, hstage⟩
  · cases h

/-- A manifest that is BUILDING is OUTBOUND, and may take any stage (R66). -/
theorem Manifest.wf_stage_of_building {m : Manifest} (hm : m.wf) (hb : m.stage = .building) (x : Stage) :
    Manifest.wf { m with stage := x } := by
  obtain ⟨size, labels, items, route, stage⟩ := hm
  refine ⟨size, labels, items, route, ?_⟩
  rw [hb] at stage
  cases hr : m.route with
  | outbound due => rfl
  | inbound t h => rw [hr] at stage; cases stage

/-- An item of a new label is appended below the capacity (R68). -/
theorem Manifest.wf_append {m : Manifest} (hm : m.wf) {i : Item} (hsize : ¬ Config.manifestSize ≤ m.items.length)
    (hnew : ¬ (findItem i.label m.items).isSome = true) (hlabel : labelOk i.label = true) (hfits : i.state.fits m.route = true) :
    Manifest.wf { m with items := m.items ++ [i] } := by
  obtain ⟨-, labels, items, route, stage⟩ := hm
  have absent : ∀ x ∈ m.items, x.label ≠ i.label := by simpa [findItem_isSome] using hnew
  refine ⟨?_, ?_, ?_, route, stage⟩
  · simp only [Config.manifestSize] at hsize
    simp only [List.length_append, List.length_cons, List.length_nil]
    omega
  · simp only [List.map_append, List.map_cons, List.map_nil]
    refine List.nodup_append.mpr ⟨labels, List.nodup_singleton _, fun a ha b hb => ?_⟩
    obtain ⟨x, hx, rfl⟩ := List.mem_map.mp ha
    rw [List.mem_singleton.mp hb]
    exact absent x hx
  · simp only [List.all_append, List.all_cons, List.all_nil, hlabel, hfits, items, Bool.and_true]

/-- Items are taken from the list (R78). -/
theorem Manifest.wf_filter {m : Manifest} (hm : m.wf) (p : Item → Bool) : Manifest.wf { m with items := m.items.filter p } := by
  obtain ⟨size, labels, items, route, stage⟩ := hm
  refine ⟨(List.length_filter_le _ _).trans size, labels.sublist (List.filter_sublist.map _), ?_, route, stage⟩
  rw [List.all_eq_true] at items ⊢
  exact fun i hi => items i (List.mem_of_mem_filter hi)

theorem markItem_labels (label : Label) (x : ItemState) (items : List Item) :
    (markItem label x items).map Item.label = items.map Item.label := by
  rw [markItem, List.map_map]
  refine List.map_congr_left fun i _ => ?_
  dsimp only [Function.comp_apply]
  split <;> rfl

/-- An item takes a state of its route (R80, R81). -/
theorem Manifest.wf_markItem {m : Manifest} (hm : m.wf) (label : Label) {x : ItemState} (hx : x.fits m.route = true) :
    Manifest.wf { m with items := markItem label x m.items } := by
  obtain ⟨size, labels, items, route, stage⟩ := hm
  refine ⟨by simpa [markItem] using size, by rw [markItem_labels]; exact labels, ?_, route, stage⟩
  rw [List.all_eq_true] at items ⊢
  rintro _ hi
  obtain ⟨i, hmem, rfl⟩ := List.mem_map.mp hi
  have := items i hmem
  split
  · simp_all
  · exact this

theorem caseValue_all {lo hi : Int} (h : lo ≤ hi) (i : Option Int) :
    ((caseValue lo hi i).all fun t => decide (lo ≤ t) && decide (t ≤ hi)) = true := by
  cases i with
  | none => rfl
  | some i =>
    simp only [caseValue, Option.map_some, Option.all_some, clampInt_eq h, Bool.and_eq_true, decide_eq_true_eq]
    omega

theorem depositItem_fits {hold : Nat} (hh : hold ≤ 720) (courier : Fin 16) (r : Option Record) (t h : Option Int) :
    (depositItem hold courier r).fits (.inbound t h) = true := by
  unfold depositItem
  split
  · rfl
  · split
    · exact decide_eq_true hh
    · rfl

theorem State.hatchRefusal_none {s : State} (h : s.hatchRefusal = none) : s.anyCountdownOrDischarged = false := by
  rw [s.hatchRefusal_eq, firstFailing_append_eq_none] at h
  simpa using h.2

namespace State.InService

/-! ### The manifest at the facility (R73, R76 to R79, R87) -/

theorem ownOpenManifest {s : State} (hs : s.InService) (direction courier : Byte) (consignment due : BitVec 16) :
    (ownOpenManifest direction courier consignment due s).state.InService := by
  unfold Machine.ownOpenManifest
  repeat' split
  · exact hs
  · exact hs
  · exact hs
  · exact hs
  · exact hs
  · exact hs
  · next e _ hrange _ c hc _ hclock hfree =>
    refine hs.withDesk rfl (hs.desk.build ⟨?_, ?_, nofun, fun _ => by simpa using hclock⟩ rfl fun m hm => by simp [hm] at hfree)
    · refine ⟨by simp, by simp, rfl, ?_, rfl⟩
      simp only [Route.wf, Bool.and_eq_true, decide_eq_true_eq]
      omega
    · exact Option.isSome_iff_exists.mpr ⟨c, hc⟩

theorem ownAddItem {s : State} (hs : s.InService) (label : Label) : (ownAddItem label s).state.InService := by
  unfold Machine.ownAddItem
  repeat' split
  · exact hs
  · exact hs
  · exact hs
  · exact hs
  · exact hs
  · exact hs
  · next hl _ m hb hnew hsize _ _ _ _ _ =>
    obtain ⟨hm, hstage⟩ := State.building_eq_some hb
    have law := hs.desk.manifest m hm
    refine hs.withDesk rfl (State.DeskLaw.quiet (hs.desk.build (m := { m with items := m.items ++ [_] })
      { law with wf := Manifest.wf_append law.wf hsize hnew (by simpa using hl) ?_ } hstage fun m' hm' => ?_) (.of_eq rfl rfl rfl))
    · obtain ⟨-, -, -, -, stage⟩ := law.wf
      rw [hstage] at stage
      cases hr : m.route with
      | outbound due => rfl
      | inbound t h => rw [hr] at stage; cases stage
    · cases hm.symm.trans hm'; exact hstage

theorem ownDropItem {s : State} (hs : s.InService) (label : Label) : (ownDropItem label s).state.InService := by
  unfold Machine.ownDropItem
  split
  · exact hs
  · split
    · exact hs
    · next m hb =>
      split
      · exact hs
      · obtain ⟨hm, hstage⟩ := State.building_eq_some hb
        have law := hs.desk.manifest m hm
        refine hs.withDesk rfl (State.DeskLaw.quiet (hs.desk.build (m := { m with items := m.items.filter _ })
          { law with wf := Manifest.wf_filter law.wf _ } hstage fun m' hm' => ?_) (.of_eq rfl rfl rfl))
        cases hm.symm.trans hm'; exact hstage

theorem ownOfferManifest {s : State} (hs : s.InService) : (ownOfferManifest s).state.InService := by
  unfold Machine.ownOfferManifest
  split
  · exact hs
  · next m hb =>
    split
    · exact hs
    · split
      · exact hs
      · next hr =>
        obtain ⟨hm, hstage⟩ := State.building_eq_some hb
        have law := hs.desk.manifest m hm
        refine hs.withDesk rfl (hs.desk.time { law with wf := Manifest.wf_stage_of_building law.wf hstage _, present := fun ha => ?_ } ?_
          (State.hatchRefusal_none hr) fun m' hm' => ?_)
        · by_contra hn
          have : ¬ s.identified = some m.courier := fun h => hn ((s.identified_eq_some _).mp h)
          simp [this] at ha
        · dsimp only
          split <;> rfl
        · cases hm.symm.trans hm'; rw [hstage]; rfl

theorem ownCancelManifest {s : State} (hs : s.InService) : (ownCancelManifest s).state.InService := by
  unfold Machine.ownCancelManifest
  repeat' split
  · exact hs
  · next m hm _ => exact hs.withDesk rfl (.closeWith hs.desk.toDeskRules hm nofun)
  · exact hs

theorem ownReleaseManifest {s : State} (hs : s.InService) : (ownReleaseManifest s).state.InService := by
  unfold Machine.ownReleaseManifest
  repeat' split
  · exact hs
  · exact hs
  · next m hm hx => exact hs.withDesk rfl (hs.desk.free fun m' hm' => by cases hm.symm.trans hm'; simpa using hx)

/-! ### The courier table (R49 to R51) -/

/-- An entry of the courier table is written, and nothing else. -/
theorem setCourier {s : State} (hs : s.InService) (e : Fin 16) {c : Option Courier}
    (hc : CourierLaw (s.ret.couriers.set e c)) (hd : c.isSome = true ∨ s.courierBusy e = false) : (s.setCourier e c).InService :=
  { running := hs.running, couriers := hc, desk := hs.desk.setCourier e c hd
    links := fun k => (hs.links k).congr rfl (by cases k <;> rfl) (by cases k <;> rfl) }

theorem ownEnrolCourier {s : State} (hs : s.InService) (entry : Byte) (badge : BitVec 24) (code : AccessCode) :
    (ownEnrolCourier entry badge code s).state.InService := by
  unfold Machine.ownEnrolCourier
  repeat' split
  · exact hs
  · exact hs
  · exact hs
  · next e n _ hcode hbadge htaken _ =>
    refine hs.setCourier e (hs.couriers.set e (fun x hx => ?_) fun x hx e' c' hne hc' hb => htaken ?_) (.inl rfl)
    · cases hx; exact Courier.enrolled_wf hbadge hcode
    · cases hx
      rw [State.badgeTaken_eq, decide_eq_true_eq]
      exact ⟨e', hne, by rw [hc']; exact congrArg some hb⟩
  · exact hs

theorem ownRevokeCourier {s : State} (hs : s.InService) (entry : Byte) : (ownRevokeCourier entry s).state.InService := by
  unfold Machine.ownRevokeCourier
  repeat' split
  · exact hs
  · exact hs
  · next e _ hbusy => exact hs.setCourier e (hs.couriers.set e nofun nofun) (.inr (by simpa using hbusy))

theorem ownUnlockCourier {s : State} (hs : s.InService) (entry : Byte) : (ownUnlockCourier entry s).state.InService := by
  unfold Machine.ownUnlockCourier
  repeat' split
  · exact hs
  · exact hs
  · next e _ _ c hc =>
    exact hs.setCourier e (hs.couriers.rewrite hc (Courier.cleared_wf (hs.couriers.whole e c hc)) rfl) (.inl rfl)

/-! ### The hatch (R55 to R59, R80 to R86, R90) -/

theorem endLapse {s : State} (hs : s.InService) : s.endLapse.InService := by
  unfold State.endLapse
  split
  · next h => exact hs.withDesk rfl (hs.desk.endLapse h)
  · exact hs

/-- The count of an entry that is not locked is cleared (R55, R56). -/
theorem clearAttempts {s : State} (hs : s.InService) {e : Fin 16} {c : Courier} (hc : s.ret.couriers[e] = some c)
    (hl : c.locked = false) : (s.setCourier e (some { c with attempts := 0 })).InService :=
  hs.setCourier e (hs.couriers.rewrite hc (Courier.unlocked_wf (hs.couriers.whole e c hc) hl) rfl) (.inl rfl)

/-- IDENTIFY counts a wrong code, or clears the count and brings the courier on the link (R55, R56). -/
theorem ownIdentify {s : State} (hs : s.InService) (badge : BitVec 24) (code : AccessCode) :
    (ownIdentify badge code s).state.InService := by
  unfold Machine.ownIdentify
  have ht := hs.endLapse
  generalize s.endLapse = t at ht
  dsimp only
  repeat' split
  · exact ht
  · exact ht
  · exact ht
  · exact ht
  · exact ht
  · next e _ _ c hc hlock _ =>
    refine State.InService.quiet (ht.setCourier e (ht.couriers.rewrite hc (c' := c.failed) ?_ rfl) (.inl rfl))
      (.raiseIf (.refl _) _ _)
    exact Courier.failed_wf (ht.couriers.whole e c hc) (by simpa using hlock)
  · next e _ _ c hc hlock _ _ => exact ht.clearAttempts hc (by simpa using hlock)
  · next hidle _ e _ _ c hc hlock _ hother =>
    have cleared := ht.clearAttempts hc (by simpa using hlock)
    have idle : t.identified = none := by simpa using hidle
    refine cleared.withDesk rfl (cleared.desk.identifyAs ?_ idle (by simpa using hother))
    simp [State.enrolled]

theorem ownDeclare {s : State} (hs : s.InService) (consignment : BitVec 16) (caseT caseH : Option (BitVec 16)) :
    (ownDeclare consignment caseT caseH s).state.InService := by
  unfold Machine.ownDeclare whenIdentified
  repeat' split
  · exact hs
  · exact hs
  · exact hs
  · exact hs
  · next e he hfree _ hr =>
    refine hs.withDesk rfl (hs.desk.time ⟨?_, hs.desk.courier e he, fun _ => he, nofun⟩ rfl (State.hatchRefusal_none hr)
      fun m hm => by simp [hm] at hfree)
    refine ⟨by simp, by simp, rfl, ?_, rfl⟩
    exact (Bool.and_eq_true _ _).mpr ⟨caseValue_all (by decide) _, caseValue_all (by decide) _⟩

/-- A request of the visit takes the list of an ACTIVE manifest's items, and times the visit anew (R54, R80, R81, R84, R90). -/
theorem listItems {s : State} (hs : s.InService) {m : Manifest} (hm : s.active = some m) {items : List Item}
    (wf : Manifest.wf { m with items := items }) :
    State.InService { s.restartHandover with manifest := some { m with items := items } } := by
  obtain ⟨hm, hx⟩ := State.active_eq_some hm
  have timed : m.stage.isTimed = true := by rw [hx]; rfl
  refine hs.withDesk rfl (hs.desk.time { hs.desk.manifest m hm with wf := wf } timed (hs.desk.fire m hm timed) fun m' hm' => ?_)
  cases hm.symm.trans hm'; rw [hx]; rfl

theorem ownDeposit {s : State} (hs : s.InService) (label : Label) : (ownDeposit label s).state.InService := by
  refine whenIdentified_keeps hs fun e => ?_
  repeat' split
  · exact hs
  · exact hs
  · exact hs
  · exact hs
  · exact hs
  · next hl _ m hm _ caseT caseH hr hsize hnew =>
    obtain ⟨hm', -⟩ := State.active_eq_some hm
    have listed := hs.listItems hm (Manifest.wf_append (hs.desk.manifest m hm').wf
      (i := ⟨label, depositItem (s.holdFor caseT caseH) m.courier (s.find label)⟩) hsize hnew (by simpa using hl) ?_)
    · show (State.raiseIf _ _ _).InService
      exact listed.quiet (.raiseIf (.of_eq (by rfl) (by rfl) (by rfl)) _ _)
    · rw [hr]; exact depositItem_fits (holdOf_le ..) ..

theorem ownChoose {s : State} (hs : s.InService) (label : Label) {x : ItemState} (hx : x = .accepted ∨ x = .declined) :
    (ownChoose label x s).state.InService := by
  refine whenIdentified_keeps hs fun e => ?_
  repeat' split
  · exact hs
  · exact hs
  · exact hs
  · exact hs
  · next m hm _ due hr _ =>
    obtain ⟨hm', -⟩ := State.active_eq_some hm
    refine hs.listItems hm (Manifest.wf_markItem (hs.desk.manifest m hm').wf label ?_)
    rw [hr]; rcases hx with rfl | rfl <;> rfl

theorem ownView {s : State} (hs : s.InService) : (ownView s).state.InService := by
  refine whenIdentified_keeps hs fun e => ?_
  split
  · exact hs
  · next m hm =>
    obtain ⟨hm', -⟩ := State.active_eq_some hm
    exact State.InService.quiet (hs.listItems hm (hs.desk.manifest m hm').wf) (.of_eq rfl (by simp [State.desk, hm']) rfl)

theorem ownFinish {s : State} (hs : s.InService) : (ownFinish s).state.InService := by
  refine whenIdentified_keeps hs fun e => ?_
  split
  · exact hs
  · next m hm =>
    obtain ⟨hm, hx⟩ := State.active_eq_some hm
    exact hs.withDesk rfl (.closeWith hs.desk.toDeskRules hm fun _ => hx)

theorem ownLeave {s : State} (hs : s.InService) : (ownLeave s).state.InService := by
  unfold Machine.ownLeave
  repeat' split
  · exact hs
  · next h => exact hs.withDesk rfl (hs.desk.endLapse h)
  · next m hm =>
    obtain ⟨hm, -⟩ := State.active_eq_some hm
    exact hs.withDesk rfl (.closeWith hs.desk.toDeskRules hm nofun)
  · next hn =>
    refine hs.withDesk rfl (hs.desk.endVisit fun m hm hx => ?_)
    simp [State.active, hm, hx] at hn

end State.InService

end Sys2Proof.Machine
end

section
/-! The commands that begin a countdown, move the door, set the clock or a link's rate, and the expiries of HU's timers keep the
law (R54, R62 to R64, R73, R74, R111, R151 to R153, R165, R181 to R185). -/

namespace Sys2Proof.Machine

open Host

/-! ### The second knock (R148, R149, R151, R152) -/

theorem State.abandonForFire_registry (s : State) : s.abandonForFire.registry = s.registry := by
  unfold State.abandonForFire; repeat' split
  all_goals rfl

theorem State.secondKnock_registry (s : State) (z : Zone) : (s.secondKnock z).registry = s.registry := by
  unfold State.secondKnock State.enterCountdown; split
  · exact State.abandonForFire_registry _
  · rfl

/-- A line whose function is not HATCH_DOOR does not move the door (R62). -/
theorem State.setLevel_doorOpen {s : State} {n : Fin 12} (h : s.inputFunction n ≠ .hatchDoor) (level : Bool) :
    (s.setLevel n level).doorOpen = s.doorOpen := by
  rw [Bool.eq_iff_iff, State.doorOpen, State.doorOpen, State.anyAsserted_iff, State.anyAsserted_iff]
  refine exists_congr fun k => and_congr_right fun hk => ?_
  have hne : k ≠ n := fun e => h (e ▸ hk)
  simp only [State.setLevel, setLevelBit_getLsbD, if_neg hne]

theorem followDoor_registry (s t : State) : (followDoor s t).registry = t.registry := by
  unfold followDoor; repeat' split
  all_goals rfl

/-- The clock is valid, whatever it was (R185). -/
theorem State.DeskLaw.validClock {s : State} (hs : s.DeskLaw) (clock left : Nat) :
    State.DeskLaw { s with ret := { s.ret with clock := clock, clockValid := true }, secondLeft := left } :=
  { hs with manifest := fun m hm => { hs.manifest m hm with clock := fun _ => rfl } }

namespace State.InService

theorem secondKnock {s : State} (hs : s.InService) (z : Zone) : (s.secondKnock z).InService :=
  hs.withDesk (s.secondKnock_registry z) (hs.desk.secondKnock z)

theorem ownManualRelease {s : State} (hs : s.InService) (zone : Byte) : (ownManualRelease zone s).state.InService := by
  unfold Machine.ownManualRelease
  repeat' split
  · exact hs
  · exact hs
  · exact hs.secondKnock _

theorem goodSample {s : State} (hs : s.InService) (z : Zone) (counts : RawCounts) : (s.goodSample z counts).InService := by
  unfold State.goodSample
  extract_lets v c reading weight previous x s1 s2
  have h1 : s.Quiet s1 := .setZone s z _ id
  have h2 : s.Quiet s2 := by
    unfold s2; split
    · exact h1
    · exact h1.trans (.account s1 z weight)
  split
  · exact (hs.quiet h2).secondKnock z
  · exact hs.quiet h2

theorem sampleClimate {s : State} (hs : s.InService) (z : Zone) (counts : RawCounts) : (s.sampleClimate z counts).InService := by
  unfold State.sampleClimate
  extract_lets v x s1
  have h1 : s1.InService := hs.quiet (.setZone s z _ id)
  split
  · exact h1.quiet (.sensorFault s1 z)
  · exact h1.goodSample z counts

/-! ### The lines (R62, R153, R181, R184) -/

theorem setLevel {s : State} (hs : s.InService) {n : Fin 12} (h : s.inputFunction n ≠ .hatchDoor) (level : Bool) :
    (s.setLevel n level).InService :=
  hs.withDesk rfl (hs.desk.atDoor rfl rfl fun hp => (hs.desk.door hp).trans (s.setLevel_doorOpen h level).symm)

/-- After a change of the levels or the functions of the inputs, the opening follows the door (R62). -/
theorem followDoor {s t : State} (hs : s.InService) (hr : t.registry = s.registry)
    (hd : t.desk = { s.desk with levels := t.levels, inputs := t.live.inputs }) (hz : t.zones = s.zones) :
    (followDoor s t).InService :=
  hs.withDesk ((followDoor_registry s t).trans hr) (hs.desk.followDoor hs.running hd hz)

theorem lineChange {s : State} (hs : s.InService) (n : Fin 12) (level : Bool) : (s.lineChange n level).InService := by
  unfold State.lineChange
  split
  · exact hs
  · dsimp only
    split
    · next h => exact (hs.setLevel (by simp [h]) level).quiet (.raiseIf (.refl _) _ _)
    · exact (hs.followDoor (t := s.setLevel n level) rfl rfl rfl).quiet (.raiseIf (.refl _) _ _)
    · next h =>
      have ht := hs.setLevel (n := n) (by simp [h]) level
      unfold abortLineChanged
      split
      · exact ht
      · exact ht.quiet (.abortChanged _ _)
    · next h =>
      have ht := hs.setLevel (n := n) (by simp [h]) level
      split
      · exact ht.secondKnock _
      · exact ht
    · next h => exact hs.setLevel (by simp [h]) level

theorem setInputFunction {s : State} (hs : s.InService) (n : Fin 12) (f : InputFunction) : (s.setInputFunction n f).InService :=
  (hs.followDoor (t := { s with live := { s.live with inputs := s.live.inputs.set n f } }) rfl rfl rfl).quiet
    (.raiseIf (.refl _) _ _)

theorem ownSetLineFunction {s : State} (hs : s.InService) (direction line function zone : Byte) :
    (ownSetLineFunction direction line function zone s).state.InService := by
  unfold Machine.ownSetLineFunction
  extract_lets change
  have changes (f : State → State) (hf : change = some f) : (f s).InService := by
    unfold change at hf
    split at hf
    · obtain ⟨x, -, rfl⟩ := Option.map_eq_some_iff.mp hf; exact hs.setInputFunction _ x
    · obtain ⟨x, -, rfl⟩ := Option.map_eq_some_iff.mp hf; exact hs.quiet (.of_eq rfl rfl rfl)
    · cases hf
  clear_value change
  repeat' split
  · exact hs
  · exact hs
  · exact hs
  · next f _ _ => exact changes f rfl

/-! ### The clock and the link rates (R165, R185) -/

theorem ownSetClock {s : State} (hs : s.InService) (count : BitVec 32) : (ownSetClock count s).state.InService :=
  have set : State.InService { s with ret := { s.ret with clock := count.toNat, clockValid := true }, secondLeft := 1000 } :=
    hs.withDesk rfl (hs.desk.validClock count.toNat 1000)
  set.quiet (.overdueCheck _)

/-- SET_LINK_RATE leaves the facility link to follow when its answer has been sent (R165). -/
theorem ownSetLinkRate {s : State} (hs : s.InService) (link divisor : Byte) :
    (ownSetLinkRate link divisor s).state.ServesBeside .facility := by
  unfold Machine.ownSetLinkRate
  repeat' split
  · exact hs.servesBeside _
  · refine ⟨hs.running, hs.couriers, fun k hk => ?_, hs.desk.of_desk rfl rfl⟩
    cases k with
    | facility => exact absurd rfl hk
    | hatch => exact (hs.links .hatch).congr rfl rfl rfl
  · exact hs.servesBeside _
  · have beside : State.ServesBeside { s with live := { s.live with hatchDivisor := divisor } } .hatch := by
      refine ⟨hs.running, hs.couriers, fun k hk => ?_, hs.desk.of_desk rfl rfl⟩
      cases k with
      | facility => exact (hs.links .facility).congr rfl rfl rfl
      | hatch => exact absurd rfl hk
    exact (beside.settle (hs.link_wf .hatch)).servesBeside _
  · exact hs.servesBeside _

/-! ### The expiries of HU's timers (R54, R64, R73, R74) -/

theorem handoverExpiry {s : State} (hs : s.InService) : s.handoverExpiry.InService := by
  unfold State.handoverExpiry
  split
  · exact hs
  · exact hs
  · split
    · next m hm =>
      split
      · have closed : (s.closeWith m .timeout).InService := hs.withDesk rfl (.closeWith hs.desk.toDeskRules hm nofun)
        exact closed.quiet (.raise (.refl _) _)
      · next hx =>
        refine hs.withDesk rfl (.clearLink hs.desk.toDeskRules fun m' hm' => ?_)
        cases hm.symm.trans hm'
        exact Bool.eq_false_iff.mpr fun ht => hx ((Stage.isTimed_iff _).mp ht)
    · next hn => exact hs.withDesk rfl (.clearLink hs.desk.toDeskRules fun m hm => by simp [hn] at hm)

theorem releaseExpiry {s : State} (hs : s.InService) : s.releaseExpiry.InService := by
  unfold State.releaseExpiry
  split
  · exact hs
  · exact hs
  · next ht =>
    have freed : s.freeManifest.InService :=
      hs.withDesk rfl (hs.desk.free fun m hm => by simpa [ht, hm] using hs.desk.release)
    exact freed.quiet (.raise (.refl _) _)

theorem openLimitReached {s : State} (hs : s.InService) : s.openLimitReached.InService := by
  unfold State.openLimitReached
  split
  · next o ho =>
    split
    · exact hs
    · exact hs.withDesk rfl (hs.desk.atDoor rfl rfl fun hp => (congrArg Option.isSome ho).symm.trans (hs.desk.door hp))
  · exact hs

end State.InService

end Sys2Proof.Machine
end

section
/-! A stop, a start-up, its completion and the idle millisecond keep the law (R54, R62, R172, R181, R190). -/

namespace Sys2Proof.Machine

open Host

theorem FireState.pass_forbidsHandover (f : FireState) : f.pass.forbidsHandover = f.forbidsHandover := by
  cases f with
  | countdown left held => cases held <;> rfl
  | _ => rfl

/-- A millisecond stops none of HU's timers: they stand at 0 (R54). -/
theorem State.DeskLaw.pass {s : State} (hs : s.DeskLaw) :
    State.DeskLaw { s with
      handoverTimer := passTimer s.handoverTimer, releaseTimer := passTimer s.releaseTimer
      opening := s.opening.map Opening.pass } :=
  { manifest := fun m hm => { hs.manifest m hm with }
    courier := hs.courier
    handover := (Option.isSome_map ..).trans hs.handover
    release := (Option.isSome_map ..).trans hs.release
    door := fun hp => (Option.isSome_map ..).trans (hs.door hp)
    fire := hs.fire }

namespace State.HallLaw

theorem stop {s : State} (hs : s.HallLaw) {x : Phase} (hx : x = .inReset ∨ x = .unpowered) : (s.stop x).HallLaw := by
  have phase : (s.stop x).phase = x := rfl
  have idle (k : LinkId) : ((s.stop x).link k).wf k false = true := by
    rw [Link.wf_stopped_iff]; cases k <;> exact ⟨rfl, rfl, rfl⟩
  have stopped : (s.stop x).phase ≠ .running ∧ (s.stop x).started = false := by
    rcases hx with rfl | rfl <;> exact ⟨nofun, rfl⟩
  obtain ⟨notRunning, notStarted⟩ := stopped
  refine ⟨?_, fun k => ⟨by simpa [notRunning] using idle k, fun h => by rw [notStarted] at h; cases h⟩, ?_⟩
  · rw [s.stop_eq]; exact hs.couriers
  · exact hs.desk.atDoor (by rw [s.stop_eq]; rfl) (by rw [s.stop_eq]) fun h => absurd h notRunning

/-- Start-up begins with the couriers of retained memory, the links waiting at their divisors and no handover (R188 to R190). -/
theorem startUp {s : State} (hs : s.HallLaw) (lost : Bool) : (s.startUp lost).HallLaw := by
  refine ⟨?_, fun k => ?_, .of_untimed ⟨nofun, nofun, rfl, rfl, nofun⟩ nofun⟩
  · cases lost
    · exact hs.couriers
    · exact CourierLaw.of_lost
  · cases k <;> exact ⟨Link.atStart_wf _ _, fun _ _ => rfl⟩

/-- The part enters service with its links as start-up left them, and the opening as the door stands (R62, R181, R190). -/
theorem enterService {s : State} (hs : s.HallLaw) {lost : Bool} (hp : s.phase = .starting lost) (pins : BitVec 12) :
    (s.enterService lost pins).InService := by
  have started : s.started = true := by simp [State.started, hp]
  have stopped (k : LinkId) : (s.link k).wf k false = true := by simpa [hp] using (hs.links k).wf
  have entered : State.InService { s with
      phase := .running, monitorFell := false, levels := pins, minuteLeft := 60000, hourLeft := 3600000
      opening := if State.doorOpen { s with levels := pins } then some s.newOpening else none } :=
    { running := rfl
      couriers := hs.couriers
      links := fun k => .of_running rfl (Link.wf_of_stopped (stopped k)) ((hs.links k).rate started)
      desk := hs.desk.atDoor rfl rfl fun _ => by
        show (if State.doorOpen { s with levels := pins } then some s.newOpening else none).isSome =
          State.doorOpen { s with levels := pins }
        cases State.doorOpen { s with levels := pins } <;> rfl }
  exact entered.quiet (.raiseIf (.raiseIf (.of_eq (by rfl) (by rfl) (by rfl)) _ _) _ _)

end State.HallLaw

theorem State.InService.foldl {f : State → Zone → State} (hf : ∀ t z, t.InService → (f t z).InService) (zs : List Zone)
    {s : State} (hs : s.InService) : (zs.foldl f s).InService := by
  induction zs generalizing s with
  | nil => exact hs
  | cons z zs ih => exact ih (hf s z hs)

theorem State.InService.firstSamples {s : State} (hs : s.InService) (climate : PerZone RawCounts)
    (loops : PerZone (BitVec 12)) : (s.firstSamples climate loops).InService :=
  foldl (fun _ z ht => ht.quiet (.sampleLoop _ z _)) _ (foldl (fun _ z ht => ht.sampleClimate z _) _ hs)

namespace State.HallLaw

theorem idle {s : State} (hs : s.HallLaw) : s.idle.HallLaw := by
  unfold State.idle
  dsimp only
  split
  · have passed : s.Quiet { s with zones := PerZone.tabulate fun z => (s.zones.get z).pass } :=
      { registry := rfl, desk := rfl
        fire := fun z h => by
          rw [State.fire, PerZone.get_tabulate] at h
          exact (FireState.pass_forbidsHandover _).symm.trans h }
    refine ⟨hs.couriers, fun k => ?_, (hs.desk.quiet passed).pass.of_desk rfl rfl⟩
    cases k with
    | facility => exact ⟨(hs.links .facility).wf, (hs.links .facility).rate⟩
    | hatch => exact ⟨(hs.links .hatch).wf, (hs.links .hatch).rate⟩
  · exact hs.quiet (.of_eq rfl rfl rfl)

/-! ### The commands of reset, power and start-up (R172, R189, R190) -/

theorem execResetAssert {s t : State} (hs : s.HallLaw) (h : execResetAssert s = .next t) : t.HallLaw := by
  unfold Machine.execResetAssert at h
  split at h <;> cases h
  · exact hs.stop (.inl rfl)
  · exact hs.stop (.inl rfl)
  · exact hs
  · exact hs

theorem execPowerLoss {s t : State} (hs : s.HallLaw) (h : execPowerLoss s = .next t) : t.HallLaw := by
  unfold Machine.execPowerLoss at h
  split at h <;> cases h
  · exact hs
  · exact hs.stop (.inr rfl)

theorem execStartUp {s t : State} (hs : s.HallLaw) (h : execStartUp s = .next t) : t.HallLaw := by
  unfold Machine.execStartUp at h
  split at h <;> cases h
  · exact hs.startUp _
  · exact hs.startUp _
  · exact hs
  · exact hs

theorem execStartUpComplete {s t : State} (hs : s.HallLaw) {pins : BitVec 12} {climate : PerZone RawCounts}
    {loops : PerZone (BitVec 12)} (h : execStartUpComplete pins climate loops s = .next t) : t.HallLaw := by
  unfold Machine.execStartUpComplete at h
  split at h <;> obtain rfl := Outcome.next.inj h
  · next lost hp => exact ((hs.enterService hp pins).firstSamples climate loops).toHallLaw
  · exact hs
  · exact hs
  · exact hs

theorem execBackupBelowRetention {s t : State} (hs : s.HallLaw) (h : execBackupBelowRetention s = .next t) : t.HallLaw := by
  unfold Machine.execBackupBelowRetention at h
  split at h <;> cases h
  · exact hs.quiet (.of_eq rfl rfl rfl)
  · exact hs

end State.HallLaw

end Sys2Proof.Machine
end

section
/-! Every step keeps the law of the couriers, the links and the handover: the law of every command, one case a constructor,
and the idle millisecond. -/

namespace Sys2Proof.Machine

open Host

/-- Every command keeps the law of the couriers, the links and the handover. -/
theorem State.HallLaw.exec {c : Instr} {s t : State} (hs : s.HallLaw) (h : exec c s = .next t) : t.HallLaw := by
  cases c with
  | enroll label cls slot => exact hs.request_quiet h (.ownEnroll label cls slot s)
  | lookup label => exact hs.request_quiet h (.ownLookup label s)
  | slotQuery slot => exact hs.request_quiet h (.ownSlotQuery slot s)
  | nextLabel label => exact hs.request_quiet h (.ownNextLabel label s)
  | place label slot => exact hs.request_quiet h (.ownPlace label slot s)
  | relocate label slot => exact hs.request_quiet h (.ownRelocate label slot s)
  | unbind label => exact hs.request_quiet h (.ownUnbind label s)
  | retire label => exact hs.request_quiet h (.ownRetire label s)
  | clearMark label mark => exact hs.request_quiet h (.ownClearMark label mark s)
  | setClass label cls => exact hs.request_quiet h (.ownSetClass label cls s)
  | extendDue label hours => exact hs.request_quiet h (.ownExtendDue label hours s)
  | openManifest direction courier consignment due =>
    exact hs.request h fun hs => hs.ownOpenManifest direction courier consignment due
  | addItem label => exact hs.request h fun hs => hs.ownAddItem label
  | dropItem label => exact hs.request h fun hs => hs.ownDropItem label
  | offerManifest => exact hs.request h fun hs => hs.ownOfferManifest
  | cancelManifest => exact hs.request h fun hs => hs.ownCancelManifest
  | readManifest => exact hs.request_quiet h (.ownReadManifest s)
  | releaseManifest => exact hs.request h fun hs => hs.ownReleaseManifest
  | enrolCourier entry badge code => exact hs.request h fun hs => hs.ownEnrolCourier entry badge code
  | revokeCourier entry => exact hs.request h fun hs => hs.ownRevokeCourier entry
  | unlockCourier entry => exact hs.request h fun hs => hs.ownUnlockCourier entry
  | readCourier entry => exact hs.request_quiet h (.ownReadCourier entry s)
  | setZoneMode zone mode => exact hs.request_quiet h (.ownSetZoneMode zone mode s)
  | setBoundary boundary value => exact hs.request_quiet h (.ownSetBoundary boundary value s)
  | setClimate => exact hs.request_quiet h (.ownSetClimate _ _ s)
  | readZone zone => exact hs.request_quiet h (.ownReadZone zone s)
  | resetDose zone => exact hs.request_quiet h (.ownResetDose zone s)
  | setTrim zone trimT trimH => exact hs.request_quiet h (.ownSetTrim zone trimT trimH s)
  | setStartMode zone mode => exact hs.request_quiet h (.ownSetStartMode zone mode s)
  | setConditioning kT kH base => exact hs.request_quiet h (.ownSetConditioning kT kH base s)
  | readConditioning => exact hs.request_quiet h (.refl s)
  | setLoop => exact hs.request_quiet h (.ownSetLoop _ _ _ _ _ _ s)
  | loopReturn loop => exact hs.request_quiet h (.ownLoopReturn loop s)
  | clearLoopFlags loop o x a => exact hs.request_quiet h (.ownClearLoopFlags loop o x a s)
  | abortRelease zone => exact hs.request_quiet h (.ownAbortRelease zone s)
  | manualRelease zone => exact hs.request h fun hs => hs.ownManualRelease zone
  | resetAlarm zone => exact hs.request_quiet h (.ownResetAlarm zone s)
  | bankReloaded => exact hs.request_quiet h (.ownBankReloaded s)
  | setRelease scope b0 b1 b2 b3 => exact hs.request_quiet h (.ownSetRelease scope b0 b1 b2 b3 s)
  | status => exact hs.request_quiet h (.refl s)
  | clearEvents choice => exact hs.request_quiet h (.of_eq rfl rfl rfl)
  | setEventEnable enables => exact hs.request_quiet h (.ownSetEventEnable enables s)
  | setClock count => exact hs.request h fun hs => hs.ownSetClock count
  | readClock => exact hs.request_quiet h (.refl s)
  | setLine line level => exact hs.request_quiet h (.ownSetLine line level s)
  | setExpect levels => exact hs.request_quiet h (.ownSetExpect levels s)
  | setLineFunction direction line function zone =>
    exact hs.request h fun hs => hs.ownSetLineFunction direction line function zone
  | setTimers handover release openLimit => exact hs.request_quiet h (.ownSetTimers handover release openLimit s)
  | setClassLimit cls limit => exact hs.request_quiet h (.ownSetClassLimit cls limit s)
  | storeSettings => exact hs.request_quiet h (.ownStoreSettings s)
  | setLinkRate link divisor => exact hs.request_beside h fun hs => hs.ownSetLinkRate link divisor
  | identifyPart => exact hs.request_quiet h (.refl s)
  | identify badge code => exact hs.request h fun hs => hs.ownIdentify badge code
  | declare consignment caseT caseH => exact hs.request h fun hs => hs.ownDeclare consignment caseT caseH
  | deposit label => exact hs.request h fun hs => hs.ownDeposit label
  | accept label => exact hs.request h fun hs => hs.ownChoose label (.inl rfl)
  | decline label => exact hs.request h fun hs => hs.ownChoose label (.inr rfl)
  | view => exact hs.request h fun hs => hs.ownView
  | finish => exact hs.request h fun hs => hs.ownFinish
  | leave => exact hs.request h fun hs => hs.ownLeave
  | hatchStatus => exact hs.request_quiet h (.refl s)
  | unknownRequest k code ps =>
    exact hs.event (f := fun s => if (s.link k).receiving then s else s.frameCompletes k code ps) h fun hs =>
      hs.unknownRequest k code ps
  | frameDiscard k =>
    exact hs.event (f := fun s => if (s.link k).receiving then s.discardFrame k else s) h fun hs => hs.discardIf k _
  | frameGapTimeout k =>
    exact hs.timed (left := fun s => (s.link k).gapLeft)
      (f := fun s => if (s.link k).receiving then s.discardFrame k else s) h fun hs => hs.discardIf k _
  | responseSent k => exact hs.event (f := fun s => s.responseEnds k) h fun hs => hs.responseEnds k
  | handoverTimerExpiry => exact hs.event h fun hs => hs.handoverExpiry
  | releaseTimerExpiry => exact hs.event h fun hs => hs.releaseExpiry
  | hatchOpenLimitReached => exact hs.event h fun hs => hs.openLimitReached
  | verificationWindowExpiry z => exact hs.event (f := fun s => s.windowExpiry z) h fun hs => hs.quiet (.windowExpiry s z)
  | countdownExpiry z => exact hs.event (f := fun s => s.countdownExpiry z) h fun hs => hs.quiet (.countdownExpiry s z)
  | releasePulseEnd => exact hs.event h fun hs => hs.quiet (.pulseEnd s)
  | climateSample z counts =>
    exact hs.timed (left := fun s => (s.zones.get z).sampleLeft) (f := fun s => s.sampleClimate z counts) h fun hs =>
      hs.sampleClimate z counts
  | loopSample z count =>
    exact hs.timed (left := fun s => (s.zones.get z).loopLeft) (f := fun s => s.sampleLoop z count) h fun hs =>
      hs.quiet (.sampleLoop s z count)
  | elapsedMinuteTick =>
    exact hs.timed (f := fun s => { s.minuteTick with minuteLeft := 60000 }) h fun hs =>
      hs.quiet ((State.Quiet.minuteTick s).trans (.of_eq rfl rfl rfl))
  | elapsedHourTick =>
    exact hs.timed (f := fun s => { (if s.ret.clockValid then s.overdueCheck else s) with hourLeft := 3600000 }) h fun hs =>
      hs.quiet ((State.Quiet.hourTick s).trans (.of_eq rfl rfl rfl))
  | siteClockSecond => cases h; exact hs.quiet (.clockSecond s)
  | storeWriteComplete => exact hs.event h fun hs => hs.quiet (.storeComplete s)
  | inputLineChange n level => exact hs.event (f := fun s => s.lineChange n level) h fun hs => hs.lineChange n level
  | resetAssert => exact hs.execResetAssert h
  | powerLoss => exact hs.execPowerLoss h
  | startUp => exact hs.execStartUp h
  | startUpComplete pins climate loops => exact hs.execStartUpComplete h
  | backupBelowRetention => exact hs.execBackupBelowRetention h
  | characterReceived k char ok =>
    exact hs.event (f := fun s => s.character k char ok) h fun hs => hs.character k char ok

/-- Every step keeps the law: a command of the queue does, and the idle millisecond runs the timers down. -/
theorem State.HallLaw.step {s t : State} (hs : s.HallLaw) (h : step s = .next t) : t.HallLaw := by
  unfold Machine.step at h
  split at h
  · cases h; exact hs.idle
  · next rest _ => exact (hs.quiet (t := { s with pending := rest }) (.of_eq rfl rfl rfl)).exec h

/-- Settles O56, from the law of the couriers and the links that every step keeps. -/
theorem stepKeepsCouriersAndLinks : Obligations.StepKeepsCouriersAndLinks := fun _ t hi h =>
  let law := hi.hallLaw.step h
  ⟨t.couriersWf_iff.mpr law.couriers, t.linksWf_iff.mpr law.links⟩

/-- Settles O58, from the law of the handover that every step keeps. -/
theorem stepKeepsHandover : Obligations.StepKeepsHandover := fun _ t hi h => t.deskLaw_iff.mp (hi.hallLaw.step h).desk

end Sys2Proof.Machine
end

section
/-! The courier table's requests, the identification, and the hatch requests that need a courier (R49 to R51, R53, R55, R56). -/

namespace Sys2Proof.Machine

open Host

/-! ### Answers that change the state -/

/-- A request that its owner block refuses, with the state as the rule leaves it. -/
theorem takeRequest_refused_leaving {s t : State} {k : LinkId} {code : Byte} {c : Instr} {owner : State → Answer} {x : Status}
    (h : s.takes k c) (ho : owner s = refused t x) : takeRequest k code c owner s = .next (t.answered k code x []) := by
  rw [takeRequest_taken owner h, ho]; rfl

/-- A request that its owner block accepts. -/
theorem takeRequest_accepted {s t : State} {k : LinkId} {code : Byte} {c : Instr} {owner : State → Answer} {results : List Byte}
    (h : s.takes k c) (ho : owner s = accepted t results) :
    takeRequest k code c owner s = .next (t.answered k code .ok results) := by
  rw [takeRequest_taken owner h, ho]; rfl

/-! ### The courier table (R49 to R51) -/

theorem setCourier_courier (s : State) (e : Fin 16) (c : Option Courier) : (s.setCourier e c).ret.couriers[e] = c := by
  rw [State.setCourier_ret_couriers, couriers_getElem_set, if_pos rfl]

theorem setCourier_identified (s : State) (e : Fin 16) (c : Option Courier) : (s.setCourier e c).identified = s.identified := rfl

/-- A courier that is not busy is not on the link (R49). -/
theorem State.identified_ne_of_idle {s : State} {e : Fin 16} (h : ¬ s.courierBusy e = true) : s.identified ≠ some e := by
  rw [s.courierBusy_eq, decide_eq_true_eq] at h
  exact fun hi => h (.inr hi)

theorem ownEnrolCourier_badParam {s : State} {entry : Byte} {badge : BitVec 24} {code : AccessCode}
    (h : entryOf entry = none ∨ codeOf code = none ∨ badge = 0) :
    ownEnrolCourier entry badge code s = refused s .badParam := by
  unfold ownEnrolCourier
  split
  · next he hc => exact if_pos (by simpa [he, hc] using h)
  · rfl

/-- Settles O23: each request's tests, then the entry as it is written and reported. -/
theorem courierTableRequests : Obligations.CourierTableRequests := by
  refine ⟨fun s entry badge code htake => ⟨fun h => takeRequest_refused htake (ownEnrolCourier_badParam h),
      fun e value he hc hb => ?_⟩,
    fun s entry htake => ⟨fun h => takeRequest_refused htake (by simp [ownRevokeCourier, h]), fun e he => ?_⟩,
    fun s entry htake => ⟨fun h => takeRequest_refused htake (by simp [ownUnlockCourier, h]), fun e he => ⟨fun h => ?_,
      fun c h => ?_⟩⟩⟩
  · refine (takeRequest_taken (ownEnrolCourier entry badge code) htake).trans ?_
    simp only [ownEnrolCourier, he, hc, if_neg hb]
    refine judged_of_if (by rw [s.badgeTaken_eq]; simp) fun _ => judged_of_if (by rw [s.courierBusy_eq]; simp) fun hbusy => ?_
    simp only [State.courierBytes_eq _ he, setCourier_courier, setCourier_identified,
      State.identified_ne_of_idle hbusy, if_false]
    rfl
  · refine (takeRequest_taken (ownRevokeCourier entry) htake).trans ?_
    simp only [ownRevokeCourier, he]
    refine judged_of_if (by rw [s.courierBusy_eq]; simp) fun hbusy => ?_
    simp only [State.courierBytes_eq _ he, setCourier_courier, setCourier_identified,
      State.identified_ne_of_idle hbusy, if_false]
    rfl
  · exact takeRequest_refused htake (by simp only [ownUnlockCourier, he, h])
  · refine takeRequest_accepted htake ?_
    simp only [ownUnlockCourier, he, h, State.courierBytes_eq _ he, setCourier_courier, setCourier_identified]
    rfl

/-! ### Requests of the visit without a courier (R53, R59) -/

/-- The six requests of the visit but LEAVE test the link first (R53). -/
theorem exec_whenIdentified {c : Instr} {code : Byte} (hc : requestOn c = some (.hatch, code))
    (hcode : code ∈ [0x61, 0x62, 0x63, 0x64, 0x65, 0x66]) (s : State) :
    ∃ owner : State → Answer, ∃ f : Fin 16 → Answer,
      exec c s = takeRequest .hatch code c owner s ∧ owner s = whenIdentified s f := by
  cases c
  case declare | deposit | accept | decline | view | finish => cases hc; exact ⟨_, _, rfl, rfl⟩
  case identify | leave | hatchStatus => cases hc; exact absurd hcode (by decide)
  all_goals cases hc

theorem whenIdentified_idle {s : State} (h : s.hatch = .idle) (f : Fin 16 → Answer) :
    whenIdentified s f = refused s .notIdentified := by
  simp only [whenIdentified, h]

theorem whenIdentified_lapsed {s : State} (h : s.hatch = .lapsed) (f : Fin 16 → Answer) :
    whenIdentified s f = refused s .tooLate := by
  simp only [whenIdentified, h]

/-- Settles O25: the link is tested first, and LEAVE in LAPSED leaves it IDLE. -/
theorem hatchRequestsNeedACourier : Obligations.HatchRequestsNeedACourier := by
  refine ⟨fun s c code hc hcode htake => ?_, fun s htake => ⟨fun h => takeRequest_refused htake ?_, fun h => ?_⟩⟩
  · obtain ⟨owner, f, he, ho⟩ := exec_whenIdentified hc hcode s
    rw [he]
    exact ⟨fun h => takeRequest_refused htake (ho.trans (whenIdentified_idle h f)),
      fun h => takeRequest_refused htake (ho.trans (whenIdentified_lapsed h f))⟩
  · simp only [ownLeave, h]
  · exact takeRequest_refused_leaving htake (by simp only [ownLeave, h])

/-! ### Identification (R55, R56) -/

theorem State.endLapse_couriers (s : State) : s.endLapse.ret.couriers = s.ret.couriers := by rw [s.endLapse_eq]

/-- A link without a courier has none when a lapse has ended (R55). -/
theorem State.endLapse_identified {s : State} (h : s.identified = none) : s.endLapse.identified = none := by
  unfold State.endLapse; split
  · rfl
  · exact h

/-- Once a code is spelled and no courier is on the link, the holder of the badge decides (R55, R56). -/
theorem ownIdentify_holder {s : State} {badge : BitVec 24} {code : AccessCode} {given : Nat} {e : Fin 16} {c : Courier}
    (hcode : codeOf code = some given) (hi : s.identified = none) (hc : s.ret.couriers[e] = some c) (hb : c.badge = badge)
    (hsole : ∀ e' : Fin 16, e' ≠ e → s.ret.couriers[e'].map Courier.badge ≠ some badge) :
    ownIdentify badge code s = 
      if c.locked then refused s.endLapse .courierLocked
      else if given ≠ c.code then refused (s.endLapse.failedAttempt e c) .codeRefused
      else
        let cleared := s.endLapse.setCourier e (some { c with attempts := 0 })
        if cleared.offeredToOther e then refused cleared .wrongCourier
        else
          let t := cleared.identifyAs e
          accepted t ([byteOf e.val, byteOf (manifestStateNumber t.manifest)] ++ directionByte t.manifest) := by
  have couriers := s.endLapse_couriers
  have holder : s.endLapse.badgeHolder badge = some e :=
    State.badgeHolder_some _ _ _ c (by rw [couriers, hc]) hb (by rwa [couriers])
  simp only [ownIdentify, hcode, State.endLapse_identified hi, holder, couriers, hc]
  rfl

/-- A wrong code at an entry that is not locked counts one attempt more, and locks and reports the third (R56). -/
theorem State.failedAttempt_eq (s : State) (e : Fin 16) {c : Courier} (hl : c.locked = false) :
    s.failedAttempt e c =
      let counted := s.setCourier e (some { c with attempts := c.attempts + 1, locked := decide (3 ≤ c.attempts + 1) })
      if 3 ≤ c.attempts + 1 then counted.raise .courierLocked else counted := by
  simp only [State.failedAttempt, State.raiseIf, Courier.failed, hl, Bool.false_or, decide_eq_true_eq]

theorem State.offeredToOther_iff (s : State) (e : Fin 16) :
    s.offeredToOther e = true ↔ ∃ m ∈ s.manifest, m.stage = .offered ∧ m.courier ≠ e := by
  unfold State.offeredToOther; cases s.manifest <;> simp

theorem directionByte_eq (o : Option Manifest) : directionByte o = [o.elim 0xFF fun m => byteOf m.route.directionNumber] := by
  cases o <;> rfl

theorem ownIdentify_badParam {badge : BitVec 24} {code : AccessCode} (h : codeOf code = none) (s : State) :
    ownIdentify badge code s = refused s.endLapse .badParam := by
  simp only [ownIdentify, h]

theorem ownIdentify_busy {s : State} {badge : BitVec 24} {code : AccessCode} {given : Nat} {e : Fin 16}
    (hcode : codeOf code = some given) (he : s.hatch = .identified e) :
    ownIdentify badge code s = refused s.endLapse .busy := by
  have unchanged : s.endLapse = s := by simp [State.endLapse, he]
  simp [ownIdentify, hcode, unchanged, (s.identified_eq_some e).mpr he]

theorem ownIdentify_notFound {s : State} {badge : BitVec 24} {code : AccessCode} {given : Nat}
    (hcode : codeOf code = some given) (hi : s.identified = none)
    (hn : ∀ e : Fin 16, s.ret.couriers[e].map Courier.badge ≠ some badge) :
    ownIdentify badge code s = refused s.endLapse .notFound := by
  have holder : s.endLapse.badgeHolder badge = none := State.badgeHolder_none _ _ (by rwa [s.endLapse_couriers])
  simp [ownIdentify, hcode, State.endLapse_identified hi, holder]

/-- Settles O24: the tests in their order, and what the failed attempt, the cleared count and the identification leave. -/
theorem identifyPresentsACourier : Obligations.IdentifyPresentsACourier := by
  intro s badge code htake
  dsimp only
  refine ⟨fun h => ?_, fun given hcode => ⟨fun e he => ?_, fun hi hn => ?_, fun e c hi hc hb hsole => ?_⟩⟩
  · exact takeRequest_refused_leaving htake ((ownIdentify_badParam h s).trans (by rw [s.endLapse_eq]))
  · exact takeRequest_refused_leaving htake ((ownIdentify_busy hcode he).trans (by rw [s.endLapse_eq]))
  · exact takeRequest_refused_leaving htake ((ownIdentify_notFound hcode hi hn).trans (by rw [s.endLapse_eq]))
  have decided := ownIdentify_holder hcode hi hc hb hsole
  rw [s.endLapse_eq] at decided
  refine ⟨fun hl => ?_, fun hl hne => ?_, fun hl heq => ⟨fun ho => ?_, fun ho => ?_⟩⟩
  · exact takeRequest_refused_leaving htake (decided.trans (if_pos hl))
  · rw [State.failedAttempt_eq _ _ hl] at decided
    exact takeRequest_refused_leaving htake (decided.trans ((if_neg (by simp [hl])).trans (if_pos hne)))
  · refine takeRequest_refused_leaving htake (decided.trans ((if_neg (by simp [hl])).trans ((if_neg (by simp [heq])).trans
      (if_pos ?_))))
    exact (State.offeredToOther_iff _ e).mpr ho
  · simp only [directionByte_eq] at decided
    refine takeRequest_accepted htake (decided.trans ((if_neg (by simp [hl])).trans ((if_neg (by simp [heq])).trans
      (if_neg fun h => ?_))))
    obtain ⟨m, hm, hx, hne⟩ := (State.offeredToOther_iff _ e).mp h
    exact hne (ho m hm hx)

end Sys2Proof.Machine
end

section
/-! The closure of a manifest, the requests that close or free it, and the expiries of the handover's timers (R54, R58, R59,
R71 to R74, R82, R85 to R87, R92). -/

namespace Sys2Proof.Machine

open Host

/-! ### The closure (R71, R72) -/

theorem Stage.isOpen_iff (x : Stage) : x.isOpen = true ↔ x = .building ∨ x = .offered ∨ x = .active := by
  cases x <;> simp [Stage.isOpen]

/-- The one item of a label is the item found (R68). -/
theorem findItem_of_mem {items : List Item} (hd : (items.map Item.label).Nodup) {i : Item} (hi : i ∈ items) :
    findItem i.label items = some i := by
  cases h : findItem i.label items with
  | none =>
    have := List.find?_eq_none.mp h i hi
    simp at this
  | some j =>
    have label : j.label = i.label := by simpa using List.find?_some h
    rw [List.inj_on_of_nodup_map hd (List.mem_of_find?_eq_some h) hi label]

theorem findItem_eq_none {items : List Item} {l : Label} (h : ∀ i ∈ items, i.label ≠ l) : findItem l items = none :=
  List.find?_eq_none.mpr fun i hi => by simpa using h i hi

/-- A closure of an OUTBOUND manifest passes over the records in their places (R71). -/
theorem State.closeWith_records_outbound (s : State) {m : Manifest} {due : Nat} (hr : m.route = .outbound due) (cause : Cause) :
    (s.closeWith m cause).ret.records = s.ret.records.map (s.closedRecord m due cause) := by
  show s.closedRecords m cause = _
  rw [State.closedRecords, hr]

theorem State.closeWith_records_inbound (s : State) {m : Manifest} (hr : m.route.isOutbound = false) (cause : Cause) :
    (s.closeWith m cause).ret.records = s.ret.records := by
  show s.closedRecords m cause = _
  unfold State.closedRecords
  split
  · next h => rw [h] at hr; cases hr
  · rfl

/-- Settles O29: the closure's one state change, what it does to each record, and what each cause leaves of the link and its
timer. -/
theorem closureOfAManifest : Obligations.ClosureOfAManifest := by
  refine ⟨State.identified_eq_some, Stage.isOpen_iff, fun s m cause => ⟨rfl, fun hr => s.closeWith_records_inbound hr cause,
    fun due hr => ⟨?_, fun n r hn => ⟨fun hnone => ?_, fun i hi hl hd => ?_⟩⟩⟩,
    fun s m => ⟨rfl, rfl, fun e he => ⟨?_, ?_, ?_⟩, fun hn => ?_⟩⟩
  · rw [s.closeWith_records_outbound hr, List.length_map]
  · rw [s.closeWith_records_outbound hr, List.getElem?_map, hn]
    simp only [Option.map_some, State.closedRecord, findItem_eq_none hnone]
  · rw [s.closeWith_records_outbound hr, List.getElem?_map, hn]
    simp only [Option.map_some, State.closedRecord, ← hl, findItem_of_mem hd hi]
    rfl
  · simp [State.closeWith, HatchState.afterClosure, he, State.handoverAfterClosure]
  · simp [State.closeWith, HatchState.afterClosure, he, State.handoverAfterClosure]
  · simp [State.closeWith, HatchState.afterClosure, State.handoverAfterClosure, (s.identified_eq_some e).mpr he]
  · have notIdentified (e : Fin 16) : s.hatch ≠ .identified e := fun h => by
      rw [(s.identified_eq_some e).mpr h] at hn; cases hn
    cases hh : s.hatch with
    | identified e => exact absurd hh (notIdentified e)
    | idle => simp [State.closeWith, HatchState.afterClosure, State.handoverAfterClosure, hn, hh]
    | lapsed => simp [State.closeWith, HatchState.afterClosure, State.handoverAfterClosure, hn, hh]

/-! ### The requests that close or free the manifest (R59, R73, R82, R85 to R87) -/

theorem State.active_of_stage {s : State} {m : Manifest} (hm : s.manifest = some m) (hx : m.stage = .active) :
    s.active = some m := by
  simp only [State.active, hm, if_pos hx]

theorem State.active_eq_none {s : State} (h : ∀ m ∈ s.manifest, m.stage ≠ .active) : s.active = none := by
  unfold State.active
  split
  · next m hm => exact if_neg (h m hm)
  · rfl

theorem State.manifestOffered_iff (s : State) : s.manifestOffered = true ↔ ∃ m ∈ s.manifest, m.stage = .offered := by
  unfold State.manifestOffered; cases s.manifest <;> simp

theorem countItems_eq (p : ItemState → Bool) (items : List Item) : countItems p items = items.countP fun i => p i.state :=
  List.countP_eq_length_filter.symm

theorem ItemState.isReturned_eq (x : ItemState) : x.isReturned = decide (x.number = 3) := by cases x <;> rfl

theorem ItemState.conflict_eq (x : ItemState) : decide (x = .conflict) = decide (x.number = 4) := by cases x <;> rfl

theorem ItemState.unknown_eq (x : ItemState) : decide (x = .unknown) = decide (x.number = 5) := by cases x <;> rfl

/-- The numbers that FINISH answers (R82, R85). -/
theorem finishResults_eq (m : Manifest) : finishResults m =
    if m.route.isOutbound
      then [byteOf (m.items.countP fun i => decide (i.state = .accepted)), byteOf (m.items.countP fun i => decide (i.state ≠ .accepted))]
      else [byteOf (m.items.countP fun i => decide (i.state.number = 3)), byteOf (m.items.countP fun i => decide (i.state.number = 4)),
        byteOf (m.items.countP fun i => decide (i.state.number = 5))] := by
  unfold finishResults
  cases m.route with
  | outbound due => simp only [countItems_eq, Route.isOutbound, if_true, decide_not]
  | inbound t h =>
    simp only [countItems_eq, ItemState.isReturned_eq, ItemState.conflict_eq, ItemState.unknown_eq]
    rfl

/-- Settles O30: each request without a manifest, and with one its test of the stage and the closure or the release it makes. -/
theorem manifestsAreClosedAndFreed : Obligations.ManifestsAreClosedAndFreed := by
  refine ⟨fun s htake => ⟨fun h => takeRequest_refused htake (by simp only [ownCancelManifest, h]), fun m hm => ?_⟩,
    fun s htake => ⟨fun h => takeRequest_refused htake (by simp only [ownReleaseManifest, h]), fun m hm => ?_⟩,
    fun s e htake he => ⟨fun h => takeRequest_refused htake ?_, fun m hm => ?_⟩,
    fun s e htake he => ⟨fun m hm hx => ?_, fun hn => ?_⟩⟩
  · refine (takeRequest_taken ownCancelManifest htake).trans ?_
    simp only [ownCancelManifest, hm]
    cases m.stage.isOpen <;> rfl
  · refine (takeRequest_taken ownReleaseManifest htake).trans ?_
    simp only [ownReleaseManifest, hm]
    cases m.stage.isOpen <;> rfl
  · simp only [ownFinish, whenIdentified, he, State.active, h]
  · refine (takeRequest_taken ownFinish htake).trans ?_
    rw [← finishResults_eq]
    by_cases hx : m.stage = .active
    · simp only [ownFinish, whenIdentified, he, State.active_of_stage hm hx]
      simp [judged, hx, accepted]
    · have inactive : s.active = none := State.active_eq_none fun m' hm' => by cases hm.symm.trans hm'; exact hx
      simp only [ownFinish, whenIdentified, he, inactive]
      simp [judged, hx, refused]
  · exact takeRequest_accepted htake (by simp only [ownLeave, he, State.active_of_stage hm hx]; rfl)
  · refine takeRequest_accepted htake ?_
    simp only [ownLeave, he, State.active_eq_none hn, State.endVisit, State.manifestOffered_iff]

/-! ### The handover timer and the release timer run out (R54, R73, R74, R92) -/

/-- An event of the running part that leaves this part as it is changes nothing, whether the part runs or not. -/
theorem whileRunning_unchanged {s : State} {f : State → State} (h : f s = s) : whileRunning f s = .next s := by
  unfold whileRunning; rw [h]; exact ite_self _

theorem State.handoverExpiry_closes {s : State} {m : Manifest} (ht : s.handoverTimer = some 0) (hm : s.manifest = some m)
    (hx : m.stage = .offered ∨ m.stage = .active) : s.handoverExpiry = (s.closeWith m .timeout).raise .courierMissed := by
  simp only [State.handoverExpiry, ht, hm]
  exact if_pos hx

theorem State.handoverExpiry_lapses {s : State} (ht : s.handoverTimer = some 0)
    (hn : ∀ m ∈ s.manifest, m.stage ≠ .offered ∧ m.stage ≠ .active) :
    s.handoverExpiry = { s with hatch := .idle, handoverTimer := none } := by
  simp only [State.handoverExpiry, ht]
  split
  · next m hm => exact if_neg (not_or.mpr (hn m hm))
  · rfl

theorem State.releaseExpiry_restarted {s : State} {left : Nat} (h : s.releaseTimer = some left) (hl : 0 < left) :
    s.releaseExpiry = s := by
  cases left with
  | zero => cases hl
  | succ n => simp only [State.releaseExpiry, h]

/-- Settles O33: a running timer at 0 closes, lapses or frees, and one with time left or stopped changes nothing. -/
theorem handoverTimersExpire : Obligations.HandoverTimersExpire := by
  refine ⟨fun s hrun ht => ⟨fun m hm hx => ?_, fun hn => ?_⟩, fun s left h hl => ?_, fun s hrun ht => ?_, fun s left h hl => ?_,
    fun s => ⟨fun h => ?_, fun h => ?_⟩⟩
  · rw [← State.handoverExpiry_closes ht hm hx]; exact whileRunning_running hrun
  · rw [← State.handoverExpiry_lapses ht hn]; exact whileRunning_running hrun
  · exact whileRunning_unchanged (State.handoverExpiry_restarted h hl)
  · refine (whileRunning_running hrun).trans ?_
    simp only [State.releaseExpiry, ht]
    rfl
  · exact whileRunning_unchanged (State.releaseExpiry_restarted h hl)
  · exact whileRunning_unchanged (by simp only [State.handoverExpiry, h])
  · exact whileRunning_unchanged (by simp only [State.releaseExpiry, h])

end Sys2Proof.Machine
end

section
/-! The door and its openings, the numbers of the line functions, and the requests on lines (R62 to R64, R181 to R184). -/

namespace Sys2Proof.Machine

open Host

/-! ### The door (R62 to R64) -/

/-- Some HATCH_DOOR line other than this one is asserted (R62). -/
def State.otherDoorLine (s : State) (n : Fin 12) : Prop :=
  ∃ k : Fin 12, k ≠ n ∧ s.live.inputs[k] = .hatchDoor ∧ s.levels.getLsbD k.val = true

/-- The door is open by this line or by another (R62). -/
theorem State.doorOpen_iff_line {s : State} {n : Fin 12} (hn : s.live.inputs[n] = .hatchDoor) :
    s.doorOpen = true ↔ s.levels.getLsbD n.val = true ∨ s.otherDoorLine n := by
  rw [State.doorOpen, State.anyAsserted_iff]
  constructor
  · rintro ⟨k, hk, hl⟩
    by_cases h : k = n
    · exact .inl (h ▸ hl)
    · exact .inr ⟨k, h, hk, hl⟩
  · rintro (hl | ⟨k, -, hk, hl⟩)
    · exact ⟨n, hn, hl⟩
    · exact ⟨k, hk, hl⟩

/-- The door after a change of one of its lines. -/
theorem State.setLevel_doorOpen_iff {s : State} {n : Fin 12} (hn : s.live.inputs[n] = .hatchDoor) (level : Bool) :
    (s.setLevel n level).doorOpen = true ↔ level = true ∨ s.otherDoorLine n := by
  rw [State.doorOpen_iff_line (s := s.setLevel n level) hn]
  refine or_congr ?_ (exists_congr fun k => and_congr_right fun hk => ?_)
  · simp only [State.setLevel, setLevelBit_getLsbD, if_true]
  · simp only [State.setLevel, setLevelBit_getLsbD, if_neg hk]

theorem followDoor_eq (s t : State) : followDoor s t =
    { t with opening :=
        if t.doorOpen = false then none
        else if s.doorOpen then t.opening
        else some { left := t.live.timers.openLimit * 1000, held := false } } := by
  unfold followDoor
  cases t.doorOpen <;> cases s.doorOpen <;> rfl

/-- A change of a HATCH_DOOR line is the door's (R62, R181). -/
theorem exec_doorLine {s : State} {n : Fin 12} {level : Bool} (hrun : s.phase = .running) (hn : s.live.inputs[n] = .hatchDoor)
    (hl : s.levels.getLsbD n.val ≠ level) : exec (.inputLineChange n level) s = .next (doorChanged s (s.setLevel n level)) := by
  have function : s.inputFunction n = .hatchDoor := hn
  refine (whileRunning_running (f := fun s => s.lineChange n level) hrun).trans (congrArg _ ((if_neg hl).trans ?_))
  simp only [function]

/-- Settles O34: a door line's change with the door held open by another line, or alone; and the open limit. -/
theorem doorOpeningsAreSupervised : Obligations.DoorOpeningsAreSupervised := by
  refine ⟨fun s => s.anyAsserted_iff .hatchDoor, fun s n level hrun hn hl => ?_, fun s o hrun ho => ?_, fun s hrun ho => ?_⟩
  · have after := State.setLevel_doorOpen_iff hn level
    have before := State.doorOpen_iff_line hn
    rw [exec_doorLine hrun hn hl, doorChanged, followDoor_eq]
    refine ⟨fun others => ?_, fun alone hlevel => ?_, fun alone hlevel => ?_⟩
    · rw [after.mpr (.inr others), before.mpr (.inr others)]; rfl
    · subst hlevel
      have closed : (s.setLevel n false).doorOpen = false := Bool.eq_false_iff.mpr fun h => (after.mp h).elim nofun alone
      rw [closed, Bool.and_false]; rfl
    · subst hlevel
      have closed : s.doorOpen = false := Bool.eq_false_iff.mpr fun h => (before.mp h).elim hl alone
      have lock : (s.setLevel n true).lockAsserted = s.lockAsserted := rfl
      rw [after.mpr (.inl rfl), closed, lock]
      cases s.lockAsserted <;> rfl
  · refine (whileRunning_running hrun).trans ?_
    simp only [State.openLimitReached, ho]
    rfl
  · exact whileRunning_unchanged (by simp only [State.openLimitReached, ho])

/-! ### The numbers of the line functions (R181, R183, R184) -/

theorem zoneOf_eq_some_iff (b : Byte) (z : Zone) : zoneOf b = some z ↔ b.toNat = z.number := Zone.ofNumber_eq_some_iff _ _

theorem inputFunctionOf_eq_some_iff (function zone : Byte) (f : InputFunction) :
    inputFunctionOf function zone = some f ↔
      match f with
      | .none => function = 0 ∧ zone = 0
      | .hatchDoor => function = 1 ∧ zone = 0
      | .abort => function = 2 ∧ zone = 0
      | .manualRelease z => function = 3 ∧ zone.toNat = z.number
      | .bankLow => function = 4 ∧ zone = 0 := by
  constructor
  · intro h
    unfold inputFunctionOf at h
    split at h
    case h_4 hf =>
      obtain ⟨z, hz, rfl⟩ := Option.map_eq_some_iff.mp h
      exact ⟨BitVec.eq_of_toNat_eq hf, (zoneOf_eq_some_iff _ _).mp hz⟩
    case h_6 => cases h
    all_goals
      next hf hz => cases h; exact ⟨BitVec.eq_of_toNat_eq hf, BitVec.eq_of_toNat_eq hz⟩
  · intro h
    cases f with
    | manualRelease z =>
      obtain ⟨rfl, hz⟩ := h
      exact congrArg (Option.map _) ((zoneOf_eq_some_iff _ _).mpr hz)
    | _ => obtain ⟨rfl, rfl⟩ := h; rfl

theorem outputFunctionOf_eq_some_iff (function zone : Byte) (f : OutputFunction) :
    outputFunctionOf function zone = some f ↔
      match f with
      | .none => function = 0 ∧ zone = 0
      | .hatchLock => function = 1 ∧ zone = 0
      | .sounder => function = 2 ∧ zone = 0
      | .predischarge => function = 3 ∧ zone = 0
      | .release z => function = 4 ∧ zone.toNat = z.number
      | .bankRelease => function = 5 ∧ zone = 0 := by
  constructor
  · intro h
    unfold outputFunctionOf at h
    split at h
    case h_5 hf =>
      obtain ⟨z, hz, rfl⟩ := Option.map_eq_some_iff.mp h
      exact ⟨BitVec.eq_of_toNat_eq hf, (zoneOf_eq_some_iff _ _).mp hz⟩
    case h_7 => cases h
    all_goals
      next hf hz => cases h; exact ⟨BitVec.eq_of_toNat_eq hf, BitVec.eq_of_toNat_eq hz⟩
  · intro h
    cases f with
    | release z =>
      obtain ⟨rfl, hz⟩ := h
      exact congrArg (Option.map _) ((zoneOf_eq_some_iff _ _).mpr hz)
    | _ => obtain ⟨rfl, rfl⟩ := h; rfl

/-! ### The requests on lines (R62, R182 to R184) -/

theorem State.mismatch_iff (s : State) (n : Fin 12) :
    s.mismatch n = true ↔ s.live.inputs[n] = .none ∧ s.levels.getLsbD n.val ≠ s.live.expected.getLsbD n.val := by
  rw [State.mismatch, Bool.and_eq_true, decide_eq_true_eq, bne_iff_ne]
  rfl

theorem entersMismatch_iff (s t : State) :
    entersMismatch s t = true ↔ ∃ n, s.mismatch n = false ∧ t.mismatch n = true := by
  simp only [entersMismatch, List.any_eq_true, Bool.and_eq_true, Bool.not_eq_true']
  exact exists_congr fun n => and_iff_right (mem_allLines n)

/-- New expected levels bring a line into mismatch that the old ones matched (R182). -/
theorem entersMismatch_setExpect (s : State) (expected : BitVec 12) :
    entersMismatch s { s with live := { s.live with expected := expected } } = true ↔
      ∃ n : Fin 12, s.live.inputs[n] = .none ∧ s.levels.getLsbD n.val = s.live.expected.getLsbD n.val ∧
        s.levels.getLsbD n.val ≠ expected.getLsbD n.val := by
  rw [entersMismatch_iff]
  refine exists_congr fun n => ?_
  rw [Bool.eq_false_iff, Ne, State.mismatch_iff, State.mismatch_iff]
  constructor
  · rintro ⟨matched, none, differs⟩
    exact ⟨none, by simpa [none] using matched, differs⟩
  · rintro ⟨none, matched, differs⟩
    exact ⟨fun h => h.2 matched, none, differs⟩

/-- A new function brings a line into mismatch that gains NONE and does not have its expected level (R182, R184). -/
theorem entersMismatch_setInput (s : State) (n : Fin 12) (f : InputFunction) :
    entersMismatch s { s with live := { s.live with inputs := s.live.inputs.set n f } } = true ↔
      f = .none ∧ s.live.inputs[n] ≠ .none ∧ s.levels.getLsbD n.val ≠ s.live.expected.getLsbD n.val := by
  have set (k : Fin 12) : (s.live.inputs.set n f)[k] = if k = n then f else s.live.inputs[k] := by
    simp only [Fin.getElem_fin, Vector.getElem_set, Fin.ext_iff, eq_comm]
  rw [entersMismatch_iff]
  constructor
  · rintro ⟨k, before, after⟩
    rw [Bool.eq_false_iff, Ne, State.mismatch_iff] at before
    rw [State.mismatch_iff] at after
    obtain ⟨none, differs⟩ := after
    simp only [set] at none
    split at none
    · next h => subst h; exact ⟨none, fun h => before ⟨h, differs⟩, differs⟩
    · exact absurd ⟨none, differs⟩ before
  · rintro ⟨rfl, gained, differs⟩
    refine ⟨n, ?_, (State.mismatch_iff _ n).mpr ⟨by simp only [set, if_true], differs⟩⟩
    rw [Bool.eq_false_iff, Ne, State.mismatch_iff]
    exact fun h => gained h.1

theorem setInputFunction_eq (s : State) (n : Fin 12) (f : InputFunction) : s.setInputFunction n f =
    let t : State := { s with live := { s.live with inputs := s.live.inputs.set n f } }
    { t with
      opening :=
        if t.doorOpen = false then none
        else if s.doorOpen then s.opening
        else some { left := s.live.timers.openLimit * 1000, held := false }
      flags :=
        if f = .none ∧ s.live.inputs[n] ≠ .none ∧ s.levels.getLsbD n.val ≠ s.live.expected.getLsbD n.val
          then s.flags ||| EventFlag.inputChange.mask else s.flags } := by
  have enters (o : Option Opening) :
      entersMismatch s { s with live := { s.live with inputs := s.live.inputs.set n f }, opening := o } = true ↔ _ :=
    entersMismatch_setInput s n f
  simp only [State.setInputFunction, followDoor_eq, State.raiseIf, enters]
  split <;> rfl

/-- The tests of SET_LINE_FUNCTION after its parameters, and the change of function it then makes (R184). -/
theorem judged_setLineFunction {s t : State} {direction line function zone : Byte}
    (htake : s.takes .facility (.setLineFunction direction line function zone))
    (h : ownSetLineFunction direction line function zone s =
      if s.allOffline = false then refused s .zoneMode
      else if s.storeBusy then refused s .storeBusy
      else accepted t [direction, line, function, zone]) :
    exec (.setLineFunction direction line function zone) s = judged s .facility 0x57
      [(Zone.all.any fun z => decide (s.mode z ≠ .offline), .zoneMode), (s.storeBusy, .storeBusy)] t
      [direction, line, function, zone] := by
  refine (takeRequest_taken (ownSetLineFunction direction line function zone) htake).trans ?_
  rw [h]
  refine judged_of_if ?_ fun _ => judged_of_if (by simp) fun _ => rfl
  rw [s.allOffline_eq]
  cases Zone.all.any fun z => decide (s.mode z ≠ .offline) <;> rfl

theorem ownSetLineFunction_badParam {s : State} {direction line function zone : Byte}
    (h : 1 < direction.toNat ∨ lineOf line = none ∨ (direction = 0 ∧ inputFunctionOf function zone = none) ∨
      (direction = 1 ∧ outputFunctionOf function zone = none)) :
    ownSetLineFunction direction line function zone s = refused s .badParam := by
  unfold ownSetLineFunction
  extract_lets change
  have hc : change = none := by
    unfold change
    split
    · next hl hd =>
      have : direction = 0 := BitVec.eq_of_toNat_eq hd
      subst this
      simpa [hl] using h
    · next hl hd =>
      have : direction = 1 := BitVec.eq_of_toNat_eq hd
      subst this
      simpa [hl] using h
    · rfl
  rw [hc]

theorem ownSetExpect_eq (levels : BitVec 16) (s : State) :
    ownSetExpect levels s =
      let t : State := { s with live := { s.live with expected := levels.setWidth 12 } }
      if s.storeBusy then refused s .storeBusy
      else accepted (if entersMismatch s t then t.raise .inputChange else t) (be16 (levels.setWidth 12).toNat ++ be16 s.levels.toNat) := by
  unfold ownSetExpect; rfl

/-- Settles O36: the numbers, and each request's tests and change. -/
theorem lineRequests : Obligations.LineRequests := by
  refine ⟨inputFunctionOf_eq_some_iff, outputFunctionOf_eq_some_iff,
    fun s line level htake => ⟨fun h => takeRequest_refused htake (by simp only [ownSetLine, h]), fun n hn => ?_⟩,
    fun s levels htake => ⟨fun h => ?_, fun h => ?_⟩,
    fun s direction line function zone htake => ⟨fun h => takeRequest_refused htake (ownSetLineFunction_badParam h),
      fun n f hd hl hf => ?_, fun n f hd hl hf => ?_⟩⟩
  · refine judged_storeBusy htake ?_
    simp only [ownSetLine, hn, lineOf_byte hn, yesNo]
  · refine judged_storeBusy htake ((ownSetExpect_eq levels s).trans ?_)
    simp only [(entersMismatch_setExpect s (levels.setWidth 12)).mpr h, if_true]
  · refine judged_storeBusy htake ((ownSetExpect_eq levels s).trans ?_)
    simp only [mt (entersMismatch_setExpect s (levels.setWidth 12)).mp h, Bool.false_eq_true, if_false]
  · subst hd
    refine judged_setLineFunction htake ?_
    simp [ownSetLineFunction, hl, hf, State.setOutputFunction]
  · subst hd
    refine judged_setLineFunction htake ?_
    rw [← setInputFunction_eq s n f]
    simp [ownSetLineFunction, hl, hf]

end Sys2Proof.Machine
end

section
/-! The completion of start-up: its flags, its door and the first samples (R62, R94, R127, R179, R181, R182, R185, R190). -/

namespace Sys2Proof.Machine

open Host

/-! ### The flags (R177, R179) -/

/-- The flags in the order of their priorities (R179). -/
def EventFlag.byPriority : List EventFlag :=
  [.discharge, .countdown, .bankStarved, .zoneAlarm, .zonePrealarm, .loopIsolated, .hatchForced, .climateExcursion, .sensorStale,
    .loopWarn, .loopRecovered, .hatchHeld, .courierLocked, .manifestClosed, .courierMissed, .facilityMissed, .holdDone, .overdue,
    .climateAlert, .linkFault, .hatchLinkFault, .inputChange, .restarted, .retainedLost]

theorem EventFlag.byPriority_priority (f : EventFlag) : EventFlag.byPriority[f.priority - 1]? = some f := by cases f <;> rfl

theorem EventFlag.priority_bound (f : EventFlag) : f.priority - 1 < 24 :=
  (List.getElem?_eq_some_iff.mp f.byPriority_priority).1

/-- Each flag has its own bit of the event word (R177). -/
theorem EventFlag.mask_bit (f g : EventFlag) : f.mask.getLsbD (g.priority - 1) = true ↔ g = f := by
  have bit : f.mask.getLsbD (g.priority - 1) = true ↔ g.priority - 1 = f.priority - 1 := by
    have := g.priority_bound
    simp only [EventFlag.mask, BitVec.getLsbD_shiftLeft, BitVec.getLsbD_one, Bool.and_eq_true, decide_eq_true_eq,
      Bool.not_eq_true', decide_eq_false_iff_not]
    omega
  rw [bit]
  refine ⟨fun h => ?_, fun h => by rw [h]⟩
  have same := g.byPriority_priority
  rw [h, f.byPriority_priority] at same
  exact (Option.some.inj same).symm

theorem State.raise_flag (s : State) (f g : EventFlag) : (s.raise f).flag g = true ↔ s.flag g = true ∨ g = f := by
  simp only [State.flag, State.raise_flags, BitVec.getLsbD_or, Bool.or_eq_true, EventFlag.mask_bit]

theorem State.raiseIf_flag (s : State) (c : Bool) (f g : EventFlag) :
    (s.raiseIf c f).flag g = true ↔ s.flag g = true ∨ (g = f ∧ c = true) := by
  cases c
  · simp [State.raiseIf]
  · simp [State.raiseIf, State.raise_flag]

/-- The flags at the completion of start-up (R179, R182, R190). -/
theorem State.startFlags_flag (s : State) (lost : Bool) (f : EventFlag) : (s.startFlags lost).flag f = true ↔
    f = .restarted ∨ (f = .retainedLost ∧ lost = true) ∨
      (f = .inputChange ∧ ∃ n : Fin 12, s.live.inputs[n] = .none ∧ s.levels.getLsbD n.val ≠ s.live.expected.getLsbD n.val) := by
  have cleared : State.flag { s with flags := 0 } f = false := by simp [State.flag]
  have mismatch : allLines.any s.mismatch = true ↔
      ∃ n : Fin 12, s.live.inputs[n] = .none ∧ s.levels.getLsbD n.val ≠ s.live.expected.getLsbD n.val := by
    rw [List.any_eq_true]
    exact exists_congr fun n => (and_iff_right (mem_allLines n)).trans (s.mismatch_iff n)
  rw [State.startFlags, State.raiseIf_flag, State.raiseIf_flag, State.raise_flag, cleared, mismatch]
  simp only [Bool.false_eq_true, false_or, or_assoc]

/-! ### What a sample leaves of the other zones (R94, R127) -/

/-- Only one zone's live state is touched, and not the time to its next loop sample; the phase stands. -/
structure State.SamplesZone (z : Zone) (s t : State) : Prop where
  phase : t.phase = s.phase
  others : ∀ z', z' ≠ z → t.zones.get z' = s.zones.get z'
  loopLeft : (t.zones.get z).loopLeft = (s.zones.get z).loopLeft

namespace State.SamplesZone

theorem trans {z : Zone} {s t u : State} (h : SamplesZone z s t) (h' : SamplesZone z t u) : SamplesZone z s u :=
  ⟨h'.phase.trans h.phase, fun z' hne => (h'.others z' hne).trans (h.others z' hne), h'.loopLeft.trans h.loopLeft⟩

theorem of_eq {z : Zone} {s t : State} (hp : t.phase = s.phase) (hz : t.zones = s.zones) : SamplesZone z s t :=
  ⟨hp, fun _ _ => by rw [hz], by rw [hz]⟩

theorem raise {z : Zone} {s t : State} (h : SamplesZone z s t) (f : EventFlag) : SamplesZone z s (t.raise f) :=
  h.trans (of_eq rfl rfl)

theorem raiseIf {z : Zone} {s t : State} (h : SamplesZone z s t) (c : Bool) (f : EventFlag) : SamplesZone z s (t.raiseIf c f) :=
  h.trans (by cases c <;> exact of_eq rfl rfl)

theorem abandonForFire {z : Zone} {s t : State} (h : SamplesZone z s t) : SamplesZone z s t.abandonForFire :=
  h.trans (of_eq (congrArg Plant.phase t.abandonForFire_plant) (congrArg Plant.zones t.abandonForFire_plant))

theorem setZone (s : State) {z : Zone} {v : ZoneState} (hv : v.loopLeft = (s.zones.get z).loopLeft) :
    SamplesZone z s (s.setZone z v) :=
  ⟨rfl, fun _ hne => by rw [State.setZone_zones, PerZone.get_set_ne _ _ hne], by rw [State.setZone_zones, PerZone.get_set_same, hv]⟩

theorem secondKnock (s : State) (z : Zone) : SamplesZone z s (s.secondKnock z) := by
  unfold State.secondKnock State.enterCountdown
  split
  · exact ((setZone s (by exact rfl)).raise _).abandonForFire
  · exact of_eq rfl rfl

theorem account (s : State) (z : Zone) (weight : Nat) : SamplesZone z s (s.account z weight) := by
  unfold State.account
  extract_lets c a dose next t
  split
  · exact of_eq rfl rfl
  · exact (of_eq rfl rfl : SamplesZone z s t).raiseIf _ _

theorem goodSample (s : State) (z : Zone) (counts : RawCounts) : SamplesZone z s (s.goodSample z counts) := by
  unfold State.goodSample
  extract_lets v c reading weight previous x s1 s2
  have h1 : SamplesZone z s s1 := setZone s rfl
  have h2 : SamplesZone z s s2 := by
    unfold s2; split
    · exact h1
    · exact h1.trans (account s1 z weight)
  split
  · exact h2.trans (secondKnock s2 z)
  · exact h2

theorem sampleClimate (s : State) (z : Zone) (counts : RawCounts) : SamplesZone z s (s.sampleClimate z counts) := by
  unfold State.sampleClimate
  extract_lets v x s1
  have h1 : SamplesZone z s s1 := setZone s rfl
  split
  · exact h1.trans ((setZone s1 (by exact rfl)).raiseIf _ _)
  · exact h1.trans (goodSample s1 z counts)

theorem alarmSample (s : State) (z : Zone) : SamplesZone z s (s.alarmSample z) := by
  unfold State.alarmSample
  split
  · exact (setZone s (by exact rfl)).raise _
  · exact (setZone s (by exact rfl)).raise _
  · exact of_eq rfl rfl

end State.SamplesZone

/-- A loop sample leaves the other zones and the phase (R127). -/
theorem State.sampleLoop_others (s : State) (z : Zone) (count : BitVec 12) :
    (s.sampleLoop z count).phase = s.phase ∧ ∀ z', z' ≠ z → (s.sampleLoop z count).zones.get z' = s.zones.get z' := by
  unfold State.sampleLoop
  extract_lets v c e s1 s2
  have begun : s1.phase = s.phase ∧ ∀ z', z' ≠ z → s1.zones.get z' = s.zones.get z' := by
    simp only [s1, State.raiseIf_eq]
    exact ⟨rfl, fun z' hne => PerZone.get_set_ne _ _ hne⟩
  have h2 : State.SamplesZone z s1 s2 := by
    unfold s2; split
    · exact .setZone s1 rfl
    · exact .of_eq rfl rfl
  obtain ⟨phase, others⟩ := begun
  split
  · have h3 := h2.trans (.alarmSample s2 z)
    exact ⟨h3.phase.trans phase, fun z' hne => (h3.others z' hne).trans (others z' hne)⟩
  · exact ⟨h2.phase.trans phase, fun z' hne => (h2.others z' hne).trans (others z' hne)⟩

/-! ### A round of samples (R94, R127) -/

theorem takeAll_append {a b : List Instr} {s t : State} (h : takeAll a s = .next t) : takeAll (a ++ b) s = takeAll b t := by
  induction a generalizing s with
  | nil => cases h; rfl
  | cons c rest ih =>
    simp only [takeAll, List.cons_append] at h ⊢
    split at h
    · exact ih h
    · cases h
    · cases h

/-- Commands one a zone, each taken where it is due, are all taken when none makes another's no longer due. -/
theorem takeAll_round {command : Zone → Instr} {effect : State → Zone → State} {due : State → Zone → Prop}
    (takes : ∀ s z, due s z → exec (command z) s = .next (effect s z))
    (keeps : ∀ s z z', z' ≠ z → due s z → due s z' → due (effect s z) z') {zs : List Zone} (hd : zs.Nodup) {s : State}
    (hs : ∀ z ∈ zs, due s z) : takeAll (zs.map command) s = .next (zs.foldl effect s) := by
  induction zs generalizing s with
  | nil => rfl
  | cons z rest ih =>
    obtain ⟨hz, hrest⟩ := List.nodup_cons.mp hd
    have due : due s z := hs z List.mem_cons_self
    simp only [List.map_cons, takeAll, takes s z due, List.foldl_cons]
    exact ih hrest fun z' hmem => keeps s z z' (fun e => hz (e ▸ hmem)) due (hs z' (List.mem_cons_of_mem _ hmem))

theorem State.climateSamples_loopsDue (climate : PerZone RawCounts) (zs : List Zone) {s : State} (hp : s.phase = .running)
    (hl : ∀ z, (s.zones.get z).loopLeft = 0) :
    let t := zs.foldl (fun s z => s.sampleClimate z (climate.get z)) s
    t.phase = .running ∧ ∀ z, (t.zones.get z).loopLeft = 0 := by
  induction zs generalizing s with
  | nil => exact ⟨hp, hl⟩
  | cons z rest ih =>
    have sampled := State.SamplesZone.sampleClimate s z (climate.get z)
    refine ih (sampled.phase.trans hp) fun z' => ?_
    by_cases h : z' = z
    · rw [h, sampled.loopLeft, hl]
    · rw [sampled.others z' h, hl]

/-- The first samples are a round of CLIMATE_SAMPLEs and then one of LOOP_SAMPLEs, where every sample is due (R94, R127). -/
theorem State.firstSamples_taken {s : State} (hp : s.phase = .running)
    (hdue : ∀ z, (s.zones.get z).sampleLeft = 0 ∧ (s.zones.get z).loopLeft = 0) (climate : PerZone RawCounts)
    (loops : PerZone (BitVec 12)) :
    takeAll ((Zone.all.map fun z => .climateSample z (climate.get z)) ++ Zone.all.map fun z => .loopSample z (loops.get z)) s =
      .next (s.firstSamples climate loops) := by
  have zones : Zone.all.Nodup := by decide
  have climateTaken := takeAll_round (command := fun z => .climateSample z (climate.get z))
    (effect := fun s z => s.sampleClimate z (climate.get z))
    (due := fun s z => s.phase = .running ∧ (s.zones.get z).sampleLeft = 0)
    (fun s z h => whenDue_due (left := fun s => (s.zones.get z).sampleLeft) (f := fun s => s.sampleClimate z (climate.get z)) h.1 h.2)
    (fun s z z' hne h h' => by
      have sampled := State.SamplesZone.sampleClimate s z (climate.get z)
      exact ⟨sampled.phase.trans h.1, by rw [sampled.others z' hne, h'.2]⟩)
    zones (s := s) fun z _ => ⟨hp, (hdue z).1⟩
  obtain ⟨running, loopsDue⟩ := State.climateSamples_loopsDue climate Zone.all hp fun z => (hdue z).2
  rw [takeAll_append climateTaken]
  exact takeAll_round (command := fun z => .loopSample z (loops.get z)) (effect := fun s z => s.sampleLoop z (loops.get z))
    (due := fun s z => s.phase = .running ∧ (s.zones.get z).loopLeft = 0)
    (fun s z h => whenDue_due (left := fun s => (s.zones.get z).loopLeft) (f := fun s => s.sampleLoop z (loops.get z)) h.1 h.2)
    (fun s z z' hne h h' => by
      obtain ⟨phase, others⟩ := s.sampleLoop_others z (loops.get z)
      exact ⟨phase.trans h.1, by rw [others z' hne, h'.2]⟩)
    zones fun z _ => ⟨running, loopsDue z⟩

/-! ### START_UP_COMPLETE (R62, R179, R181, R185, R190) -/

/-- The flags alone are set as start-up completes (R179, R190). -/
theorem State.startFlags_eq (s : State) (lost : Bool) : s.startFlags lost = { s with flags := (s.startFlags lost).flags } := by
  simp only [State.startFlags, State.raiseIf_eq]
  rfl

theorem State.enterService_opening (s : State) (lost : Bool) (pins : BitVec 12) : (s.enterService lost pins).opening =
    if State.doorOpen { s with levels := pins }
      then some { left := s.live.timers.openLimit * 1000, held := false } else none := by
  rw [State.enterService, State.startFlags_eq]
  rfl

theorem State.enterService_eq (s : State) (lost : Bool) (pins : BitVec 12) : s.enterService lost pins =
    { s with
      phase := .running, monitorFell := false, levels := pins, minuteLeft := 60000, hourLeft := 3600000
      opening := (s.enterService lost pins).opening, flags := (s.enterService lost pins).flags } := by
  rw [s.enterService_opening, State.enterService, State.startFlags_eq]
  rfl

theorem execStartUpComplete_notStarting {s : State} (h : s.startingUp = false) (pins : BitVec 12) (climate : PerZone RawCounts)
    (loops : PerZone (BitVec 12)) : execStartUpComplete pins climate loops s = .next s := by
  unfold execStartUpComplete
  split
  · next hp => simp [State.startingUp, hp] at h
  · rfl
  · rfl
  · rfl

/-- Settles O52: the part as it enters service, its door and its flags, and the first samples as the samples' commands take
them. -/
theorem startUpCompletes : Obligations.StartUpCompletes := by
  refine ⟨fun s lost pins climate loops hp => ?_, fun s pins climate loops h => execStartUpComplete_notStarting h pins climate loops⟩
  have door := State.anyAsserted_iff { s with levels := pins } .hatchDoor
  refine ⟨s.enterService_eq lost pins, fun h => ?_, fun h => ?_, fun f => State.startFlags_flag _ lost f, ?_, fun hdue => ?_⟩
  · rw [s.enterService_opening]; exact if_pos (door.mpr h)
  · rw [s.enterService_opening]; exact if_neg (mt door.mp h)
  · show execStartUpComplete pins climate loops s = _
    simp only [execStartUpComplete, hp]
  · have running : (s.enterService lost pins).phase = .running := by rw [s.enterService_eq]
    have zones : (s.enterService lost pins).zones = s.zones := by rw [s.enterService_eq]
    exact State.firstSamples_taken running (by rwa [zones]) climate loops

end Sys2Proof.Machine
end

section
/-! The law of STAGED records (R70): the labels of the STAGED records are those that the open OUTBOUND manifest lists. What the
law reads of the part, what an update must show to keep it, and the operations on records that make none STAGED. -/

namespace Sys2Proof.Machine

open Host

/-! ### The law -/

/-- The labels of the STAGED records. -/
def State.stagedLabels (s : State) : List Label := (s.ret.records.filter Record.isStaged).map Record.label

/-- The labels that an open OUTBOUND manifest lists (R70). -/
def State.listedLabels (s : State) : List Label := s.stagedItems.map Item.label

/-- The STAGED records and the listed items have the same labels (R70). -/
def State.StagedMatch (s : State) : Prop := ∀ l, l ∈ s.stagedLabels ↔ l ∈ s.listedLabels

theorem State.mem_stagedLabels {s : State} {l : Label} :
    l ∈ s.stagedLabels ↔ ∃ r ∈ s.ret.records, r.isStaged = true ∧ r.label = l := by
  simp [State.stagedLabels, and_assoc]

theorem State.mem_listedLabels {s : State} {l : Label} : l ∈ s.listedLabels ↔ (findItem l s.stagedItems).isSome = true := by
  simp [State.listedLabels, findItem_isSome]

/-- In a table in label order the record found by a label is the one that decides whether the label is STAGED (R3). -/
theorem State.find_isStaged_iff {s : State} (ho : inLabelOrder s.ret.records) (l : Label) :
    (s.find l).any Record.isStaged = true ↔ l ∈ s.stagedLabels := by
  rw [State.mem_stagedLabels, Option.any_eq_true]
  constructor
  · rintro ⟨r, hr, hst⟩
    exact ⟨r, findRecord_mem hr, hst, findRecord_label hr⟩
  · rintro ⟨r, hr, hst, hl⟩
    cases hf : s.find l with
    | none => exact absurd hl (State.find_eq_none hf r hr)
    | some x =>
      rw [ho.eq_of_label hr (findRecord_mem hf) (hl.trans (findRecord_label hf).symm)] at hst
      exact ⟨x, rfl, hst⟩

theorem State.stagedLaw_iff {s : State} (ho : inLabelOrder s.ret.records) : s.stagedLaw ↔ s.StagedMatch := by
  unfold State.stagedLaw State.StagedMatch
  simp only [s.find_isStaged_iff ho, ← State.mem_listedLabels]
  constructor
  · rintro ⟨listed, staged⟩ l
    refine ⟨fun h => ?_, fun h => ?_⟩
    · obtain ⟨r, hr, hst, rfl⟩ := State.mem_stagedLabels.mp h
      exact staged r hr hst
    · obtain ⟨i, hi, rfl⟩ := List.mem_map.mp h
      exact listed i hi
  · intro h
    exact ⟨fun i hi => (h _).mpr (List.mem_map_of_mem hi), fun r hr hst =>
      (h _).mp (State.mem_stagedLabels.mpr ⟨r, hr, hst, rfl⟩)⟩

/-! ### What a manifest lists -/

theorem State.listedLabels_none {s : State} (h : s.manifest = none) : s.listedLabels = [] := by
  simp [State.listedLabels, State.stagedItems, h]

theorem State.listedLabels_some {s : State} {m : Manifest} (h : s.manifest = some m) :
    s.listedLabels = if m.route.isOutbound && m.stage.isOpen then m.items.map Item.label else [] := by
  simp only [State.listedLabels, State.stagedItems, h]
  split <;> rfl

/-- An open OUTBOUND manifest lists its items. -/
theorem State.listedLabels_outbound {s : State} {m : Manifest} (h : s.manifest = some m) (hr : m.route.isOutbound = true)
    (ho : m.stage.isOpen = true) : s.listedLabels = m.items.map Item.label := by
  simp [State.listedLabels_some h, hr, ho]

theorem State.listedLabels_inbound {s : State} {m : Manifest} (h : s.manifest = some m) (hr : m.route.isOutbound = false) :
    s.listedLabels = [] := by
  simp [State.listedLabels_some h, hr]

theorem State.listedLabels_closed {s : State} {m : Manifest} (h : s.manifest = some m) (ho : m.stage.isOpen = false) :
    s.listedLabels = [] := by
  simp [State.listedLabels_some h, ho]

theorem State.listedLabels_congr {s t : State} (h : t.manifest = s.manifest) : t.listedLabels = s.listedLabels := by
  unfold State.listedLabels State.stagedItems; rw [h]

/-- What leaves the desk as it is leaves the list. -/
theorem State.Quiet.listedLabels {s t : State} (h : s.Quiet t) : t.listedLabels = s.listedLabels :=
  State.listedLabels_congr (congrArg Desk.manifest h.desk)

/-! ### What makes no record STAGED, and unmakes none -/

theorem State.stagedLabels_congr {s t : State} (h : t.ret.records = s.ret.records) : t.stagedLabels = s.stagedLabels := by
  unfold State.stagedLabels; rw [h]

/-- What leaves the custody table as it is leaves the STAGED records. -/
theorem State.CustodyFrame.stagedLabels {s t : State} (h : s.CustodyFrame t) : t.stagedLabels = s.stagedLabels :=
  State.stagedLabels_congr h.records

/-- A change of every record that keeps each one's label, and keeps it STAGED or not, keeps the STAGED labels. -/
theorem State.stagedLabels_map (s : State) {f : Record → Record} (hl : ∀ r, (f r).label = r.label)
    (hst : ∀ r ∈ s.ret.records, (f r).isStaged = r.isStaged) :
    (s.setRecords (s.ret.records.map f)).stagedLabels = s.stagedLabels := by
  have labels : Record.label ∘ f = Record.label := funext hl
  show (List.filter _ (List.map f s.ret.records)).map _ = _
  rw [List.filter_map, List.map_map, labels]
  exact congrArg _ (List.filter_congr hst)

theorem State.stagedLabels_modifyRecord (s : State) {l : Label} {f : Record → Record} (hl : ∀ r, (f r).label = r.label)
    (hst : ∀ r ∈ s.ret.records, r.label = l → (f r).isStaged = r.isStaged) :
    (s.modifyRecord l f).stagedLabels = s.stagedLabels := by
  refine s.stagedLabels_map (fun r => ?_) fun r hr => ?_
  · split <;> simp [hl]
  · split
    · next h => exact hst r hr h
    · rfl

theorem Record.isStaged_congr {r x : Record} (h : x.state = r.state) : x.isStaged = r.isStaged := by
  unfold Record.isStaged; rw [h]

theorem Record.isStaged_of_isOut {r : Record} (h : r.isOut = true) : r.isStaged = false := by
  obtain ⟨_, _, _, h⟩ := r.isOut_iff.mp h; simp [Record.isStaged, h]

theorem Record.minute_isStaged (r : Record) : r.minute.isStaged = r.isStaged := by
  by_cases hc : r.isConditioning = true
  · obtain ⟨hold, hs⟩ := r.isConditioning_iff.mp hc
    rw [Record.minute_of_conditioning hs]
    by_cases h0 : hold - 1 = 0 <;> simp [Record.isStaged, hs, h0]
  · rw [Record.minute_of_not_conditioning (by simpa using hc)]

theorem Record.extended_isStaged (due : Nat) (r : Record) : (r.extended due).isStaged = r.isStaged := by
  by_cases ho : r.isOut = true
  · obtain ⟨_, _, _, hs⟩ := r.isOut_iff.mp ho
    rw [Record.extended_of_out due hs]; simp [Record.isStaged, hs]
  · rw [Record.extended_of_not_out due (by simpa using ho)]

theorem State.returned_isStaged (s : State) (hold : Nat) (r : Record) : (s.returned hold r).isStaged = r.isStaged := by
  by_cases ho : r.isOut = true
  · rw [s.returned_of_out hold ho, Record.isStaged_of_isOut ho]
    by_cases h0 : hold = 0 <;> simp [Record.isStaged, h0]
  · rw [s.returned_of_not_out hold (by simpa using ho)]

/-! ### What leaves STAGED (R24, R25) -/

theorem State.reverted_isStaged (s : State) (r : Record) : (s.reverted r).isStaged = false := by
  obtain ⟨_, _, state, home, _, _⟩ := r; cases state <;> cases home <;> rfl

theorem State.checkedOut_isStaged (s : State) (courier : Fin 16) (consignment : BitVec 16) (due : Nat) (r : Record) :
    (s.checkedOut courier consignment due r).isStaged = false := by
  obtain ⟨_, _, state, _, _, _⟩ := r; cases state <;> rfl

/-- A record that is not STAGED is neither reverted nor checked out by a closure (R71). -/
theorem State.closedRecord_of_not_staged (s : State) (m : Manifest) (due : Nat) (cause : Cause) {r : Record}
    (h : r.state ≠ .staged) : s.closedRecord m due cause r = r := by
  unfold State.closedRecord
  split
  · rfl
  · rw [s.checkedOut_of_not_staged _ _ _ h, s.reverted_of_not_staged h, ite_self]

/-! ### Updates that keep the law -/

/-- The second state has the same labels STAGED and the same labels listed. -/
structure State.StagedFrame (s t : State) : Prop where
  staged : t.stagedLabels = s.stagedLabels
  listed : t.listedLabels = s.listedLabels

namespace State.StagedFrame

protected theorem refl (s : State) : s.StagedFrame s := ⟨rfl, rfl⟩

protected theorem trans {s t u : State} (h : s.StagedFrame t) (h' : t.StagedFrame u) : s.StagedFrame u :=
  ⟨h'.staged.trans h.staged, h'.listed.trans h.listed⟩

theorem of_eq {s t : State} (hr : t.ret.records = s.ret.records) (hm : t.manifest = s.manifest) : s.StagedFrame t :=
  ⟨State.stagedLabels_congr hr, State.listedLabels_congr hm⟩

theorem of_quiet {s t : State} (hc : s.CustodyFrame t) (hq : s.Quiet t) : s.StagedFrame t := ⟨hc.stagedLabels, hq.listedLabels⟩

theorem raise {s t : State} (h : s.StagedFrame t) (f : EventFlag) : s.StagedFrame (t.raise f) := h.trans (of_eq rfl rfl)

theorem raiseIf {s t : State} (h : s.StagedFrame t) (c : Bool) (f : EventFlag) : s.StagedFrame (t.raiseIf c f) :=
  h.trans (of_eq (by simp) (by simp))

theorem discardFrame (s : State) (k : LinkId) : s.StagedFrame (s.discardFrame k) := of_eq (by simp) (by simp)

theorem answered (s : State) (k : LinkId) (code : Byte) (x : Status) (results : List Byte) :
    s.StagedFrame (s.answered k code x results) := of_eq (by simp) (by simp)

theorem setZone (s : State) (z : Zone) (v : ZoneState) : s.StagedFrame (s.setZone z v) := of_eq rfl rfl

/-- The manifest changes but for its route, whether it is open, and the labels of its items. -/
theorem relist {s t : State} (hr : t.ret.records = s.ret.records) {m m' : Manifest} (hm : s.manifest = some m)
    (hm' : t.manifest = some m') (route : m'.route = m.route) (isOpen : m'.stage.isOpen = m.stage.isOpen)
    (labels : m'.items.map Item.label = m.items.map Item.label) : s.StagedFrame t :=
  ⟨State.stagedLabels_congr hr, by rw [State.listedLabels_some hm, State.listedLabels_some hm', route, isOpen, labels]⟩

end State.StagedFrame

theorem State.StagedMatch.frame {s t : State} (hs : s.StagedMatch) (h : s.StagedFrame t) : t.StagedMatch := fun l => by
  rw [h.staged, h.listed]; exact hs l

/-- No record is STAGED and nothing is listed. -/
theorem State.StagedMatch.of_empty {s : State} (hr : ∀ r ∈ s.ret.records, r.isStaged = false) (hm : s.listedLabels = []) :
    s.StagedMatch := fun l => by
  rw [hm, State.mem_stagedLabels]
  refine iff_of_false ?_ List.not_mem_nil
  rintro ⟨r, hmem, hst, -⟩
  rw [hr r hmem] at hst; cases hst

/-- While nothing is listed no record is STAGED. -/
theorem State.StagedMatch.none_staged {s : State} (hs : s.StagedMatch) (hm : s.listedLabels = []) :
    ∀ r ∈ s.ret.records, r.isStaged = false := fun r hr => by
  by_contra hst
  have := (hs r.label).mp (State.mem_stagedLabels.mpr ⟨r, hr, by simpa using hst, rfl⟩)
  rw [hm] at this; cases this

end Sys2Proof.Machine
end

section
/-! What keeps the law of STAGED records by changing the table or the list: the requests of the custody table (R8 to R18), the
requests and the closure of the manifest (R71, R73, R76 to R84), the fire sequence, the samples, the ticks and start-up. -/

namespace Sys2Proof.Machine

open Host

/-! ### Records that come into the table and leave it -/

/-- A record that is not STAGED comes into the table. -/
theorem State.stagedLabels_insertRecord (s : State) {r : Record} (h : r.isStaged = false) :
    (s.setRecords (insertRecord r s.ret.records)).stagedLabels = s.stagedLabels := by
  obtain ⟨a, b, hab, hins, -⟩ := insertRecord_split r s.ret.records
  show (List.filter _ (insertRecord r s.ret.records)).map _ = (List.filter _ s.ret.records).map _
  rw [hins, hab]
  simp [h]

/-- The records of a label leave the table, none of them STAGED. -/
theorem State.stagedLabels_removeRecord (s : State) {l : Label} (h : ∀ r ∈ s.ret.records, r.label = l → r.isStaged = false) :
    (s.setRecords (removeRecord l s.ret.records)).stagedLabels = s.stagedLabels := by
  show (List.filter _ (removeRecord l s.ret.records)).map _ = (List.filter _ s.ret.records).map _
  rw [removeRecord, List.filter_filter]
  refine congrArg _ (List.filter_congr fun r hr => ?_)
  by_cases hl : r.label = l
  · simp [hl, h r hr hl]
  · simp [hl]

theorem State.newRecord_isStaged (s : State) (label : Label) (cls : Fin 8) (slot : Option (Fin 1536)) :
    (s.newRecord label cls slot).isStaged = false := by
  cases slot <;> rfl

/-! ### What a link does (R166 to R169) -/

/-- A property that stands whenever the link is written and whenever its frame is discarded. -/
structure LinkUpdatesKeep (k : LinkId) (P : State → Prop) : Prop where
  setLink : ∀ s l, P s → P (s.setLink k l)
  discardFrame : ∀ s, P s → P (s.discardFrame k)

namespace LinkUpdatesKeep

variable {k : LinkId} {P : State → Prop}

theorem reply (hP : LinkUpdatesKeep k P) {s : State} (hs : P s) (r : Response) : P (s.reply k r) := by
  unfold State.reply
  split
  · exact hP.discardFrame _ (hP.setLink s _ hs)
  · exact hP.setLink s _ hs

theorem frameCompletes (hP : LinkUpdatesKeep k P) {s : State} (hs : P s) (code : Byte) (ps : List Byte) :
    P (s.frameCompletes k code ps) := by
  unfold State.frameCompletes State.frameArrives State.linkAnswers
  repeat' split
  · exact hP.reply hs _
  · exact hP.reply hs _
  · exact hP.setLink s _ hs
  · exact hP.discardFrame s hs
  · exact hs

theorem checkFrame (hP : LinkUpdatesKeep k P) {s : State} (hs : P s) (length : Nat) (taken : List Byte) :
    P (s.checkFrame k length taken) := by
  unfold State.checkFrame
  repeat' split
  · exact hP.discardFrame s hs
  · exact hP.discardFrame s hs
  · exact hP.discardFrame s hs
  · exact hP.frameCompletes (hP.setLink s _ hs) _ _

theorem takeCharacter (hP : LinkUpdatesKeep k P) {s : State} (hs : P s) (c : Byte) : P (s.takeCharacter k c) := by
  unfold State.takeCharacter
  repeat' split
  · exact hP.setLink s _ hs
  · exact hs
  · exact hP.discardFrame s hs
  · exact hP.setLink s _ hs
  · exact hP.checkFrame hs _ _
  · exact hP.setLink s _ hs

theorem character (hP : LinkUpdatesKeep k P) {s : State} (hs : P s) (c : Byte) (ok : Bool) : P (s.character k c ok) := by
  unfold State.character
  repeat' split
  · exact hs
  · exact hP.takeCharacter hs c
  · exact hP.discardFrame s hs
  · exact hs

theorem responseEnds (hP : LinkUpdatesKeep k P) {s : State} (hs : P s) : P (s.responseEnds k) := by
  unfold State.responseEnds
  split
  · exact hP.setLink s _ hs
  · exact hs

/-- The frame in reception, if any, is discarded (R167). -/
theorem discardIf (hP : LinkUpdatesKeep k P) {s : State} (hs : P s) (c : Bool) : P (if c then s.discardFrame k else s) := by
  split
  · exact hP.discardFrame s hs
  · exact hs

end LinkUpdatesKeep

namespace State.StagedFrame

/-! ### The custody table (R8 to R18) -/

theorem ownEnroll (label : Label) (cls : Byte) (slot : BitVec 16) (s : State) :
    s.StagedFrame (ownEnroll label cls slot s).state := by
  refine ⟨?_, (State.Quiet.ownEnroll label cls slot s).listedLabels⟩
  unfold Machine.ownEnroll
  repeat' split
  · rfl
  · rfl
  · rfl
  · rfl
  · exact s.stagedLabels_insertRecord (s.newRecord_isStaged ..)
  · rfl

/-- A record that a request has found, the only one of its label, is shelved where it was not STAGED. -/
theorem shelveAt {s : State} (hc : s.CustodyLaw) {label : Label} {r : Record} (hf : s.find label = some r)
    (hr : r.isStaged = false) (slot : Fin 1536) : s.StagedFrame (s.modifyRecord label fun r => r.shelveAt slot) := by
  refine ⟨s.stagedLabels_modifyRecord (fun _ => rfl) fun x hx hl => ?_, State.listedLabels_congr rfl⟩
  obtain rfl := hc.eq_of_find hf hx hl
  exact hr.symm

theorem ownPlace {s : State} (hc : s.CustodyLaw) (label : Label) (slot : BitVec 16) :
    s.StagedFrame (ownPlace label slot s).state := by
  unfold Machine.ownPlace
  split
  · exact .refl s
  · refine withRecord_keeps (.refl s) fun r hr => ?_
    repeat' split
    · exact .refl s
    · exact .refl s
    · next hstate _ _ _ _ _ => exact shelveAt hc hr (by rcases hstate with h | h <;> simp [Record.isStaged, h]) _
    · exact .refl s

theorem ownRelocate {s : State} (hc : s.CustodyLaw) (label : Label) (slot : BitVec 16) :
    s.StagedFrame (ownRelocate label slot s).state := by
  unfold Machine.ownRelocate
  split
  · exact .refl s
  · refine withRecord_keeps (.refl s) fun r hr => ?_
    repeat' split
    · exact .refl s
    · next hstate _ _ _ => exact shelveAt hc hr (by simp [Record.isStaged, hstate]) _
    · exact .refl s

/-- RETIRE refuses a STAGED record (R15). -/
theorem ownRetire {s : State} (hc : s.CustodyLaw) (label : Label) : s.StagedFrame (ownRetire label s).state := by
  refine withRecord_keeps (.refl s) fun r hr => ?_
  split
  · exact .refl s
  · next hn =>
    refine ⟨s.stagedLabels_removeRecord fun x hx hl => ?_, State.listedLabels_congr rfl⟩
    obtain rfl := hc.eq_of_find hr hx hl
    unfold State.retireRefusal at hn
    cases hs : x.state <;> simp_all [Record.isStaged]

/-- A change of one record that keeps its label and its state. -/
theorem modifyRecord {s : State} {label : Label} {f : Record → Record} (hl : ∀ r, (f r).label = r.label)
    (hst : ∀ r, (f r).isStaged = r.isStaged) : s.StagedFrame (s.modifyRecord label f) :=
  ⟨s.stagedLabels_modifyRecord hl fun r _ _ => hst r, State.listedLabels_congr rfl⟩

theorem ownUnbind (label : Label) (s : State) : s.StagedFrame (ownUnbind label s).state := by
  refine withRecord_keeps (.refl s) fun r _ => ?_
  split
  · exact .refl s
  · exact modifyRecord (fun _ => rfl) fun _ => rfl

theorem ownClearMark (label : Label) (mark : Byte) (s : State) : s.StagedFrame (ownClearMark label mark s).state := by
  unfold Machine.ownClearMark
  split
  · exact .refl s
  · refine withRecord_keeps (.refl s) fun r _ => ?_
    split
    · exact .refl s
    · exact modifyRecord (fun _ => rfl) fun _ => rfl

theorem ownSetClass (label : Label) (cls : Byte) (s : State) : s.StagedFrame (ownSetClass label cls s).state := by
  unfold Machine.ownSetClass
  split
  · exact .refl s
  · exact withRecord_keeps (.refl s) fun r _ => modifyRecord (fun _ => rfl) fun _ => rfl

theorem ownExtendDue (label : Label) (hours : BitVec 16) (s : State) : s.StagedFrame (ownExtendDue label hours s).state := by
  unfold Machine.ownExtendDue
  split
  · exact .refl s
  · refine withRecord_keeps (.refl s) fun r _ => ?_
    repeat' split
    · exact .refl s
    · exact .refl s
    · exact modifyRecord (Record.extended_label _) (Record.extended_isStaged _)

theorem ownSetBoundary (boundary value : Byte) (s : State) : s.StagedFrame (ownSetBoundary boundary value s).state := by
  unfold Machine.ownSetBoundary; dsimp only; repeat' split
  all_goals exact of_eq rfl rfl

/-! ### The manifest that lists what it listed (R55, R79, R80, R81, R90) -/

theorem ownOfferManifest (s : State) : s.StagedFrame (ownOfferManifest s).state := by
  unfold Machine.ownOfferManifest
  split
  · exact .refl s
  · next m hb =>
    split
    · exact .refl s
    · split
      · exact .refl s
      · obtain ⟨hm, hstage⟩ := State.building_eq_some hb
        refine relist rfl hm rfl rfl ?_ rfl
        rw [hstage]; dsimp only; split <;> rfl

theorem ownChoose (label : Label) (x : ItemState) (s : State) : s.StagedFrame (ownChoose label x s).state := by
  refine whenIdentified_keeps (.refl s) fun e => ?_
  repeat' split
  · exact .refl s
  · exact .refl s
  · exact .refl s
  · exact .refl s
  · next m hm _ _ _ _ =>
    obtain ⟨hm, -⟩ := State.active_eq_some hm
    exact relist rfl hm rfl rfl rfl (markItem_labels ..)

theorem ownView (s : State) : s.StagedFrame (ownView s).state := by
  refine whenIdentified_keeps (.refl s) fun e => ?_
  split <;> exact of_eq rfl rfl

/-- An OFFERED manifest that becomes ACTIVE lists the same items (R55). -/
theorem identifyAs (s : State) (e : Fin 16) : s.StagedFrame (s.identifyAs e) := by
  cases hm : s.manifest with
  | none => exact of_eq rfl (by simp [State.identifyAs, hm])
  | some m =>
    have activated : (s.identifyAs e).manifest = some m.activate := by simp [State.identifyAs, hm]
    by_cases hx : m.stage = .offered
    · exact relist rfl hm activated (by simp [Manifest.activate, hx]) (by simp [Manifest.activate, hx, Stage.isOpen])
        (by simp [Manifest.activate, hx])
    · exact of_eq rfl (activated.trans (by simp [Manifest.activate, hx, hm]))

theorem setCourier (s : State) (e : Fin 16) (c : Option Courier) : s.StagedFrame (s.setCourier e c) := of_eq rfl rfl

theorem ownIdentify (badge : BitVec 24) (code : AccessCode) (s : State) : s.StagedFrame (ownIdentify badge code s).state := by
  unfold Machine.ownIdentify
  refine .trans (t := s.endLapse) (by rw [s.endLapse_eq]; exact of_eq rfl rfl) ?_
  generalize s.endLapse = t
  dsimp only
  repeat' split
  · exact .refl t
  · exact .refl t
  · exact .refl t
  · exact .refl t
  · exact .refl t
  · exact (setCourier t _ _).raiseIf _ _
  · exact setCourier t _ _
  · exact (setCourier t _ _).trans (identifyAs _ _)

/-! ### What leaves both the table and the list, beside the desk and the links -/

theorem ownEnrolCourier (entry : Byte) (badge : BitVec 24) (code : AccessCode) (s : State) :
    s.StagedFrame (ownEnrolCourier entry badge code s).state := by
  unfold Machine.ownEnrolCourier; repeat' split
  all_goals exact of_eq rfl rfl

theorem ownRevokeCourier (entry : Byte) (s : State) : s.StagedFrame (ownRevokeCourier entry s).state := by
  unfold Machine.ownRevokeCourier; repeat' split
  all_goals exact of_eq rfl rfl

theorem ownUnlockCourier (entry : Byte) (s : State) : s.StagedFrame (ownUnlockCourier entry s).state := by
  unfold Machine.ownUnlockCourier; repeat' split
  all_goals exact of_eq rfl rfl

theorem followDoor (s t : State) : t.StagedFrame (followDoor s t) := by
  unfold Machine.followDoor; repeat' split
  all_goals exact of_eq rfl rfl

theorem setInputFunction (s : State) (n : Fin 12) (f : InputFunction) : s.StagedFrame (s.setInputFunction n f) :=
  ((of_eq (by rfl) (by rfl)).trans (followDoor s { s with live := { s.live with inputs := s.live.inputs.set n f } })).raiseIf _ _

theorem ownSetLineFunction (direction line function zone : Byte) (s : State) :
    s.StagedFrame (ownSetLineFunction direction line function zone s).state := by
  unfold Machine.ownSetLineFunction
  extract_lets change
  have changes (f : State → State) (hf : change = some f) : s.StagedFrame (f s) := by
    unfold change at hf
    split at hf
    · obtain ⟨x, -, rfl⟩ := Option.map_eq_some_iff.mp hf; exact setInputFunction s _ x
    · obtain ⟨x, -, rfl⟩ := Option.map_eq_some_iff.mp hf; exact of_eq rfl rfl
    · cases hf
  clear_value change
  repeat' split
  · exact .refl s
  · exact .refl s
  · exact .refl s
  · next f _ _ => exact changes f rfl

theorem ownSetLinkRate (link divisor : Byte) (s : State) : s.StagedFrame (ownSetLinkRate link divisor s).state := by
  unfold Machine.ownSetLinkRate; repeat' split
  all_goals exact of_eq (by simp) (by simp)

/-- What a link does writes the link and discards its frames. -/
theorem linkUpdates (s : State) (k : LinkId) : LinkUpdatesKeep k s.StagedFrame :=
  ⟨fun _ _ h => h.trans (of_eq (by simp) (by simp)), fun t h => h.trans (discardFrame t k)⟩

theorem openLimitReached (s : State) : s.StagedFrame s.openLimitReached := by
  unfold State.openLimitReached; repeat' split
  all_goals exact of_eq rfl rfl

theorem stop (s : State) (x : Phase) : s.StagedFrame (s.stop x) := of_eq (by rw [s.stop_eq]) (by rw [s.stop_eq])

theorem enterService (s : State) (lost : Bool) (pins : BitVec 12) : s.StagedFrame (s.enterService lost pins) :=
  of_eq (by rw [s.enterService_eq]) (by rw [s.enterService_eq])

theorem idle (s : State) : s.StagedFrame s.idle := by
  unfold State.idle; split <;> exact of_eq rfl rfl

/-! ### The fire sequence, the samples and the ticks (R104, R120, R158) -/

/-- Marks given to records. -/
theorem mark {s : State} {f : Record → Record} (hl : ∀ r, (f r).label = r.label) (hst : ∀ r, (f r).state = r.state) :
    s.StagedFrame (s.setRecords (s.ret.records.map f)) :=
  ⟨s.stagedLabels_map hl fun r _ => Record.isStaged_congr (hst r), State.listedLabels_congr rfl⟩

theorem agentZone (s : State) (z : Zone) : s.StagedFrame (s.agentZone z) :=
  mark (f := fun r => r.giveAgent _) (fun _ => rfl) fun _ => rfl

theorem exposeZone (s : State) (z : Zone) : s.StagedFrame (s.exposeZone z) :=
  mark (f := fun r => r.expose _) (fun _ => rfl) fun _ => rfl

theorem discharge (s : State) (z : Zone) : s.StagedFrame (s.discharge z) := by
  set u : State := State.writeBank { s with bank := .committed z (s.live.release.pulse * 1000) } .spent with hu
  have committed : s.StagedFrame u := by
    unfold u State.writeBank; split <;> exact of_eq rfl rfl
  exact ((committed.trans (setZone u z _)).trans (agentZone _ z)).raise _

theorem countdownExpiry (s : State) (z : Zone) : s.StagedFrame (s.countdownExpiry z) := by
  unfold State.countdownExpiry
  repeat' split
  · exact discharge s z
  · exact (setZone s z _).raise _
  · exact .refl s

theorem account (s : State) (z : Zone) (weight : Nat) : s.StagedFrame (s.account z weight) := by
  unfold State.account
  extract_lets c a dose next t
  have accounted : s.StagedFrame t := of_eq rfl rfl
  split
  · exact (accounted.trans (exposeZone t z)).raise _
  · exact accounted.raiseIf _ _

theorem minuteTick (s : State) : s.StagedFrame s.minuteTick := by
  unfold State.minuteTick
  split
  · have ticked : s.StagedFrame (s.setRecords (s.ret.records.map Record.minute)) :=
      ⟨s.stagedLabels_map Record.minute_label fun r _ => r.minute_isStaged, State.listedLabels_congr rfl⟩
    exact ticked.raiseIf _ _
  · exact .refl s

theorem overdueCheck (s : State) : s.StagedFrame s.overdueCheck := by
  refine State.StagedFrame.raiseIf (mark (fun r => ?_) fun r => ?_) _ _ <;> split <;> rfl

theorem hourTick (s : State) : s.StagedFrame (if s.ret.clockValid then s.overdueCheck else s) := by
  split
  · exact overdueCheck s
  · exact .refl s

theorem ownSetClock (count : BitVec 32) (s : State) : s.StagedFrame (ownSetClock count s).state :=
  .trans (t := { s with ret := { s.ret with clock := count.toNat, clockValid := true }, secondLeft := 1000 }) (of_eq rfl rfl)
    (overdueCheck _)

end State.StagedFrame

/-! ### One record staged or reverted (R24) -/

theorem State.mem_stagedLabels_modifyRecord {s : State} {label : Label} {f : Record → Record} (hl : ∀ r, (f r).label = r.label)
    {l : Label} : l ∈ (s.modifyRecord label f).stagedLabels ↔
      ∃ r ∈ s.ret.records, (if r.label = label then f r else r).isStaged = true ∧ r.label = l := by
  have labels (r : Record) : (if r.label = label then f r else r).label = r.label := by split <;> simp [hl]
  rw [State.mem_stagedLabels]
  show (∃ x ∈ updateRecord label f s.ret.records, _) ↔ _
  simp only [mem_updateRecord, exists_exists_and_eq_and, labels]

/-- A SHELVED record found by a label comes to be STAGED, and no other record changes. -/
theorem State.mem_stagedLabels_staged {s : State} {label : Label} {r : Record} (hf : s.find label = some r)
    (hr : r.state = .shelved) {l : Label} :
    l ∈ (s.modifyRecord label s.staged).stagedLabels ↔ l ∈ s.stagedLabels ∨ l = label := by
  rw [State.mem_stagedLabels_modifyRecord s.staged_label, State.mem_stagedLabels]
  constructor
  · rintro ⟨x, hx, hst, rfl⟩
    by_cases h : x.label = label
    · exact .inr h
    · exact .inl ⟨x, hx, by simpa [h] using hst, rfl⟩
  · by_cases h : l = label
    · rintro -
      refine ⟨r, findRecord_mem hf, ?_, (findRecord_label hf).trans h.symm⟩
      rw [if_pos (findRecord_label hf), s.staged_of_shelved hr]; rfl
    · rintro (⟨x, hx, hst, rfl⟩ | h')
      · exact ⟨x, hx, by simpa [h] using hst, rfl⟩
      · exact absurd h' h

/-- No record of a label is STAGED once the label is reverted, and no other record changes. -/
theorem State.mem_stagedLabels_reverted {s : State} {label l : Label} :
    l ∈ (s.modifyRecord label s.reverted).stagedLabels ↔ l ∈ s.stagedLabels ∧ l ≠ label := by
  rw [State.mem_stagedLabels_modifyRecord s.reverted_label, State.mem_stagedLabels]
  constructor
  · rintro ⟨x, hx, hst, rfl⟩
    by_cases h : x.label = label
    · simp [h, s.reverted_isStaged] at hst
    · exact ⟨⟨x, hx, by simpa [h] using hst, rfl⟩, h⟩
  · rintro ⟨⟨x, hx, hst, rfl⟩, h⟩
    exact ⟨x, hx, by simpa [h] using hst, rfl⟩

/-- An eligible record is SHELVED (R23). -/
theorem State.shelved_of_eligible {s : State} {r : Record} (h : s.eligibilityRefusal r = none) : r.state = .shelved := by
  unfold State.eligibilityRefusal at h
  split at h
  · assumption
  · cases h

namespace State.StagedMatch

/-! ### The manifest begins and ends (R71, R73, R76, R83) -/

/-- A manifest that lists nothing takes the place of one that lists nothing. -/
theorem unlisted {s t : State} (hs : s.StagedMatch) (hl : s.listedLabels = []) (hr : t.stagedLabels = s.stagedLabels)
    (ht : t.listedLabels = []) : t.StagedMatch := hs.frame ⟨hr, ht.trans hl.symm⟩

theorem ownOpenManifest {s : State} (hs : s.StagedMatch) (direction courier : Byte) (consignment due : BitVec 16) :
    (ownOpenManifest direction courier consignment due s).state.StagedMatch := by
  unfold Machine.ownOpenManifest
  repeat' split
  · exact hs
  · exact hs
  · exact hs
  · exact hs
  · exact hs
  · exact hs
  · next hfree => exact hs.unlisted (State.listedLabels_none (by simpa using hfree)) rfl ((State.listedLabels_some rfl).trans rfl)

theorem ownDeclare {s : State} (hs : s.StagedMatch) (consignment : BitVec 16) (caseT caseH : Option (BitVec 16)) :
    (ownDeclare consignment caseT caseH s).state.StagedMatch := by
  refine whenIdentified_keeps hs fun e => ?_
  repeat' split
  · exact hs
  · exact hs
  · next hfree _ _ =>
    exact hs.unlisted (State.listedLabels_none (by simpa using hfree)) rfl (State.listedLabels_inbound rfl rfl)

/-- A closure leaves no record STAGED: what was listed is checked out or reverted (R71, R72). -/
theorem closeWith {s : State} (hs : s.StagedMatch) {m : Manifest} (hm : s.manifest = some m) (ho : m.stage.isOpen = true)
    (cause : Cause) : (s.closeWith m cause).StagedMatch := by
  refine of_empty ?_ (State.listedLabels_closed rfl rfl)
  cases hr : m.route with
  | inbound t h =>
    rw [s.closeWith_records_inbound (by rw [hr]; rfl)]
    exact hs.none_staged (State.listedLabels_inbound hm (by rw [hr]; rfl))
  | outbound due =>
    rw [s.closeWith_records_outbound hr]
    intro x hx
    obtain ⟨r, hmem, rfl⟩ := List.mem_map.mp hx
    by_cases hst : r.isStaged = true
    · have listed := (hs r.label).mp (State.mem_stagedLabels.mpr ⟨r, hmem, hst, rfl⟩)
      rw [State.mem_listedLabels] at listed
      have items : s.stagedItems = m.items := by simp [State.stagedItems, hm, hr, ho, Route.isOutbound]
      rw [items] at listed
      obtain ⟨i, hi⟩ := Option.isSome_iff_exists.mp listed
      simp only [State.closedRecord, hi]
      split
      · exact s.checkedOut_isStaged ..
      · exact s.reverted_isStaged r
    · rw [s.closedRecord_of_not_staged m due cause (by simpa [Record.isStaged] using hst)]
      simpa using hst

theorem ownCancelManifest {s : State} (hs : s.StagedMatch) : (ownCancelManifest s).state.StagedMatch := by
  unfold Machine.ownCancelManifest
  repeat' split
  · exact hs
  · next m hm ho => exact hs.closeWith hm ho _
  · exact hs

theorem closeActive {s : State} (hs : s.StagedMatch) {m : Manifest} (ha : s.active = some m) (cause : Cause) :
    (s.closeWith m cause).StagedMatch := by
  obtain ⟨hm, hx⟩ := State.active_eq_some ha
  exact hs.closeWith hm (by rw [hx]; rfl) cause

theorem ownFinish {s : State} (hs : s.StagedMatch) : (ownFinish s).state.StagedMatch := by
  refine whenIdentified_keeps hs fun e => ?_
  split
  · exact hs
  · next m ha => exact hs.closeActive ha _

theorem ownLeave {s : State} (hs : s.StagedMatch) : (ownLeave s).state.StagedMatch := by
  unfold Machine.ownLeave
  repeat' split
  · exact hs
  · exact hs.frame (.of_eq rfl rfl)
  · next m ha => exact hs.closeActive ha _
  · exact hs.frame (.of_eq rfl rfl)

/-- A CLOSED manifest lists nothing, and becomes FREE (R73). -/
theorem freeManifest {s : State} (hs : s.StagedMatch) (hc : ∀ m, s.manifest = some m → m.stage.isOpen = false) :
    s.freeManifest.StagedMatch := by
  refine hs.unlisted ?_ rfl (State.listedLabels_none rfl)
  cases hm : s.manifest with
  | none => exact State.listedLabels_none hm
  | some m => exact State.listedLabels_closed hm (hc m hm)

theorem ownReleaseManifest {s : State} (hs : s.StagedMatch) : (ownReleaseManifest s).state.StagedMatch := by
  unfold Machine.ownReleaseManifest
  repeat' split
  · exact hs
  · exact hs
  · next m hm ho => exact hs.freeManifest fun m' hm' => by cases hm.symm.trans hm'; simpa using ho

/-- The release timer runs for a CLOSED manifest alone (R73). -/
theorem releaseExpiry {s : State} (hs : s.StagedMatch) (hd : s.DeskLaw) : s.releaseExpiry.StagedMatch := by
  unfold State.releaseExpiry
  split
  · exact hs
  · exact hs
  · next ht =>
    have freed := hs.freeManifest fun m hm => by simpa [ht, hm] using hd.release
    exact freed.frame ((State.StagedFrame.refl _).raise _)

theorem handoverExpiry {s : State} (hs : s.StagedMatch) : s.handoverExpiry.StagedMatch := by
  unfold State.handoverExpiry
  repeat' split
  · exact hs
  · exact hs
  · next m hm hx =>
    exact (hs.closeWith hm (by rcases hx with hx | hx <;> rw [hx] <;> rfl) _).frame ((State.StagedFrame.refl _).raise _)
  · exact hs.frame (.of_eq rfl rfl)
  · exact hs.frame (.of_eq rfl rfl)

/-! ### Items listed, dropped and deposited (R77, R78, R84) -/

/-- A BUILDING manifest lists its items: none that is INBOUND is BUILDING (R66). -/
theorem listed_of_building {s : State} (hd : s.DeskLaw) {m : Manifest} (hb : s.building = some m) :
    m.route.isOutbound = true ∧ m.stage.isOpen = true ∧ s.listedLabels = m.items.map Item.label := by
  obtain ⟨hm, hx⟩ := State.building_eq_some hb
  obtain ⟨-, -, -, -, stage⟩ := (hd.manifest m hm).wf
  have isOpen : m.stage.isOpen = true := by rw [hx]; rfl
  have route : m.route.isOutbound = true := by
    cases hr : m.route with
    | outbound due => rfl
    | inbound t h => rw [hx, hr] at stage; cases stage
  exact ⟨route, isOpen, State.listedLabels_outbound hm route isOpen⟩


/-- A record is listed and STAGED (R77). -/
theorem ownAddItem {s : State} (hs : s.StagedMatch) (hd : s.DeskLaw) (label : Label) : (ownAddItem label s).state.StagedMatch := by
  unfold Machine.ownAddItem
  repeat' split
  · exact hs
  · exact hs
  · exact hs
  · exact hs
  · exact hs
  · exact hs
  · next m hb _ _ _ r hr _ he =>
    obtain ⟨route, isOpen, listed⟩ := listed_of_building hd hb
    intro l
    have hs := hs l
    rw [listed] at hs
    refine (State.mem_stagedLabels_staged hr (State.shelved_of_eligible he)).trans ?_
    rw [State.listedLabels_outbound (m := { m with items := m.items ++ [_] }) rfl route isOpen, hs]
    simp

/-- An item leaves the list and its record STAGED (R78). -/
theorem ownDropItem {s : State} (hs : s.StagedMatch) (hd : s.DeskLaw) (label : Label) : (ownDropItem label s).state.StagedMatch := by
  unfold Machine.ownDropItem
  split
  · exact hs
  · split
    · exact hs
    · next m hb =>
      split
      · exact hs
      · obtain ⟨route, isOpen, listed⟩ := listed_of_building hd hb
        intro l
        have hs := hs l
        rw [listed] at hs
        refine State.mem_stagedLabels_reverted.trans ?_
        rw [State.listedLabels_outbound (m := { m with items := m.items.filter _ }) rfl route isOpen, hs]
        simp only [List.mem_map, List.mem_filter]
        grind

/-- DEPOSIT lists items of an INBOUND manifest, and returns OUT records (R84). -/
theorem ownDeposit {s : State} (hs : s.StagedMatch) (label : Label) : (ownDeposit label s).state.StagedMatch := by
  refine whenIdentified_keeps hs fun e => ?_
  repeat' split
  · exact hs
  · exact hs
  · exact hs
  · exact hs
  · exact hs
  · next m ha _ caseT caseH hr _ _ =>
    obtain ⟨hm, -⟩ := State.active_eq_some ha
    have inbound : m.route.isOutbound = false := by rw [hr]; rfl
    have returned := s.stagedLabels_modifyRecord (l := label) (s.returned_label (s.holdFor caseT caseH))
      fun r _ _ => s.returned_isStaged _ r
    show (State.raiseIf _ _ _).StagedMatch
    refine State.StagedMatch.frame ?_ ((State.StagedFrame.refl _).raiseIf _ _)
    exact hs.unlisted (State.listedLabels_inbound hm inbound) returned
      (State.listedLabels_inbound (m := { m with items := m.items ++ [_] }) rfl inbound)

/-! ### The second knock, samples and lines (R104, R111, R148, R151 to R153) -/

theorem abandonForFire {s : State} (hs : s.StagedMatch) : s.abandonForFire.StagedMatch := by
  unfold State.abandonForFire
  repeat' split
  · next m hm ho => exact hs.closeWith hm ho _
  · exact hs.frame (.of_eq rfl rfl)
  · exact hs
  · exact hs.frame (.of_eq rfl rfl)
  · exact hs

theorem secondKnock {s : State} (hs : s.StagedMatch) (z : Zone) : (s.secondKnock z).StagedMatch := by
  unfold State.secondKnock State.enterCountdown
  split
  · exact (hs.frame ((State.StagedFrame.setZone s z _).raise .countdown)).abandonForFire
  · exact hs

theorem ownManualRelease {s : State} (hs : s.StagedMatch) (zone : Byte) : (ownManualRelease zone s).state.StagedMatch := by
  unfold Machine.ownManualRelease
  repeat' split
  · exact hs
  · exact hs
  · exact hs.secondKnock _

theorem goodSample {s : State} (hs : s.StagedMatch) (z : Zone) (counts : RawCounts) : (s.goodSample z counts).StagedMatch := by
  unfold State.goodSample
  extract_lets v c reading weight previous x s1 s2
  have measured : s.StagedFrame s1 := .setZone s z _
  have accounted : s.StagedFrame s2 := by
    unfold s2; split
    · exact measured
    · exact measured.trans (.account s1 z weight)
  split
  · exact (hs.frame accounted).secondKnock z
  · exact hs.frame accounted

theorem sampleClimate {s : State} (hs : s.StagedMatch) (z : Zone) (counts : RawCounts) :
    (s.sampleClimate z counts).StagedMatch := by
  unfold State.sampleClimate
  extract_lets v x s1
  have begun : s1.StagedMatch := hs.frame (.setZone s z _)
  split
  · exact begun.frame (.of_quiet (.sensorFault s1 z) (.sensorFault s1 z))
  · exact begun.goodSample z counts

theorem sampleLoop {s : State} (hs : s.StagedMatch) (z : Zone) (count : BitVec 12) : (s.sampleLoop z count).StagedMatch :=
  hs.frame (.of_quiet (.sampleLoop s z count) (.sampleLoop s z count))

theorem lineChange {s : State} (hs : s.StagedMatch) (n : Fin 12) (level : Bool) : (s.lineChange n level).StagedMatch := by
  unfold State.lineChange
  have levelled : s.StagedFrame (s.setLevel n level) := .of_eq rfl rfl
  dsimp only
  repeat' split
  · exact hs
  · exact hs.frame (levelled.raiseIf _ _)
  · exact hs.frame ((levelled.trans (.followDoor s _)).raiseIf _ _)
  · unfold abortLineChanged
    split
    · exact hs.frame levelled
    · exact hs.frame (levelled.trans (.of_eq rfl rfl))
  · exact (hs.frame levelled).secondKnock _
  · exact hs.frame levelled
  · exact hs.frame levelled

/-! ### Start-up (R28, R94, R127, R190) -/

/-- The sweep reverts every STAGED record, and the manifest is FREE (R28). -/
theorem startUp (s : State) (lost : Bool) : (s.startUp lost).StagedMatch := by
  refine of_empty (fun x hx => ?_) (State.listedLabels_none rfl)
  obtain ⟨r, -, rfl⟩ := List.mem_map.mp hx
  exact State.reverted_isStaged _ r

/-- A sample taken of one zone after another keeps the law when the sample of each does. -/
theorem foldl {f : State → Zone → State} (hf : ∀ t z, t.StagedMatch → (f t z).StagedMatch) (zs : List Zone) {s : State}
    (hs : s.StagedMatch) : (zs.foldl f s).StagedMatch := by
  induction zs generalizing s with
  | nil => exact hs
  | cons z zs ih => exact ih (hf s z hs)

theorem firstSamples {s : State} (hs : s.StagedMatch) (climate : PerZone RawCounts) (loops : PerZone (BitVec 12)) :
    (s.firstSamples climate loops).StagedMatch := by
  unfold State.firstSamples
  exact .foldl (fun t z ht => ht.sampleLoop z _) _ (.foldl (fun t z ht => ht.sampleClimate z _) _ hs)

end State.StagedMatch

end Sys2Proof.Machine
end

section
/-! Every step keeps the law of STAGED records (R70): the law of every command, one case a constructor, and the idle
millisecond. -/

namespace Sys2Proof.Machine

open Host

namespace State.StagedMatch

/-! ### What a command does beside its owner's or its timer's work -/

/-- A request keeps the law when its owner block does: an overrun and a lost frame touch the link alone (R168). -/
theorem request {s t : State} (hs : s.StagedMatch) {k : LinkId} {code : Byte} {c : Instr} {owner : State → Answer}
    (h : takeRequest k code c owner s = .next t) (ho : (owner s).state.StagedMatch) : t.StagedMatch := by
  rcases takeRequest_cases s k code c owner with ⟨-, he⟩ | he | he <;> cases he.symm.trans h
  · exact ho.frame (.answered ..)
  · exact hs.frame (.discardFrame s k)
  · exact hs

/-- A request whose owner block changes no STAGED label and no listed one. -/
theorem request_frame {s t : State} (hs : s.StagedMatch) {k : LinkId} {code : Byte} {c : Instr} {owner : State → Answer}
    (h : takeRequest k code c owner s = .next t) (ho : s.StagedFrame (owner s).state) : t.StagedMatch :=
  hs.request h (hs.frame ho)

/-- A request whose owner block touches neither the custody table nor the desk. -/
theorem request_quiet {s t : State} (hs : s.StagedMatch) {k : LinkId} {code : Byte} {c : Instr} {owner : State → Answer}
    (h : takeRequest k code c owner s = .next t) (hc : s.CustodyFrame (owner s).state) (hq : s.Quiet (owner s).state) :
    t.StagedMatch := hs.request_frame h (.of_quiet hc hq)

/-- An event of the running part keeps the law when its effect does. -/
theorem event {s t : State} (hs : s.StagedMatch) {f : State → State} (h : whileRunning f s = .next t)
    (hf : (f s).StagedMatch) : t.StagedMatch := by
  unfold whileRunning at h
  split at h <;> cases h
  · exact hf
  · exact hs

/-- A timer's event keeps the law when its effect does. -/
theorem timed {s t : State} (hs : s.StagedMatch) {left : State → Nat} {f : State → State} (h : whenDue left f s = .next t)
    (hf : (f s).StagedMatch) : t.StagedMatch :=
  hs.event h (by split; exacts [hf, hs])

/-! ### Reset, power and start-up -/

theorem execResetAssert {s t : State} (hs : s.StagedMatch) (h : execResetAssert s = .next t) : t.StagedMatch := by
  unfold Machine.execResetAssert at h
  split at h <;> cases h
  · exact hs.frame (.stop s _)
  · exact hs.frame (.stop s _)
  · exact hs
  · exact hs

theorem execPowerLoss {s t : State} (hs : s.StagedMatch) (h : execPowerLoss s = .next t) : t.StagedMatch := by
  unfold Machine.execPowerLoss at h
  split at h <;> cases h
  · exact hs
  · exact hs.frame (.stop s _)

theorem execStartUp {s t : State} (hs : s.StagedMatch) (h : execStartUp s = .next t) : t.StagedMatch := by
  unfold Machine.execStartUp at h
  split at h <;> cases h
  · exact .startUp s _
  · exact .startUp s _
  · exact hs
  · exact hs

theorem execStartUpComplete {s t : State} (hs : s.StagedMatch) {pins : BitVec 12} {climate : PerZone RawCounts}
    {loops : PerZone (BitVec 12)} (h : execStartUpComplete pins climate loops s = .next t) : t.StagedMatch := by
  unfold Machine.execStartUpComplete at h
  split at h <;> obtain rfl := Outcome.next.inj h
  · exact (hs.frame (.enterService s _ pins)).firstSamples climate loops
  · exact hs
  · exact hs
  · exact hs

theorem execBackupBelowRetention {s t : State} (hs : s.StagedMatch) (h : execBackupBelowRetention s = .next t) :
    t.StagedMatch := by
  unfold Machine.execBackupBelowRetention at h
  split at h <;> cases h
  · exact hs.frame (.of_eq rfl rfl)
  · exact hs

/-! ### Every command and every step -/

/-- Every command keeps the law, in a part whose table is in order and whose handover is whole. -/
theorem exec {c : Instr} {s t : State} (hs : s.StagedMatch) (hc : s.CustodyLaw) (hd : s.DeskLaw) (h : exec c s = .next t) :
    t.StagedMatch := by
  have links := State.StagedFrame.linkUpdates
  cases c with
  | enroll label cls slot => exact hs.request_frame h (.ownEnroll label cls slot s)
  | lookup label => exact hs.request_quiet h (.ownLookup label s) (.ownLookup label s)
  | slotQuery slot => exact hs.request_quiet h (.ownSlotQuery slot s) (.ownSlotQuery slot s)
  | nextLabel label => exact hs.request_quiet h (.ownNextLabel label s) (.ownNextLabel label s)
  | place label slot => exact hs.request_frame h (.ownPlace hc label slot)
  | relocate label slot => exact hs.request_frame h (.ownRelocate hc label slot)
  | unbind label => exact hs.request_frame h (.ownUnbind label s)
  | retire label => exact hs.request_frame h (.ownRetire hc label)
  | clearMark label mark => exact hs.request_frame h (.ownClearMark label mark s)
  | setClass label cls => exact hs.request_frame h (.ownSetClass label cls s)
  | extendDue label hours => exact hs.request_frame h (.ownExtendDue label hours s)
  | openManifest direction courier consignment due => exact hs.request h (hs.ownOpenManifest direction courier consignment due)
  | addItem label => exact hs.request h (hs.ownAddItem hd label)
  | dropItem label => exact hs.request h (hs.ownDropItem hd label)
  | offerManifest => exact hs.request_frame h (.ownOfferManifest s)
  | cancelManifest => exact hs.request h hs.ownCancelManifest
  | readManifest => exact hs.request_quiet h (.ownReadManifest s) (.ownReadManifest s)
  | releaseManifest => exact hs.request h hs.ownReleaseManifest
  | enrolCourier entry badge code => exact hs.request_frame h (.ownEnrolCourier entry badge code s)
  | revokeCourier entry => exact hs.request_frame h (.ownRevokeCourier entry s)
  | unlockCourier entry => exact hs.request_frame h (.ownUnlockCourier entry s)
  | readCourier entry => exact hs.request_quiet h (.ownReadCourier entry s) (.ownReadCourier entry s)
  | setZoneMode zone mode => exact hs.request_quiet h (.ownSetZoneMode zone mode s) (.ownSetZoneMode zone mode s)
  | setBoundary boundary value => exact hs.request_frame h (.ownSetBoundary boundary value s)
  | setClimate => exact hs.request_quiet h (.ownSetClimate ..) (.ownSetClimate ..)
  | readZone zone => exact hs.request_quiet h (.ownReadZone zone s) (.ownReadZone zone s)
  | resetDose zone => exact hs.request_quiet h (.ownResetDose zone s) (.ownResetDose zone s)
  | setTrim zone trimT trimH => exact hs.request_quiet h (.ownSetTrim zone trimT trimH s) (.ownSetTrim zone trimT trimH s)
  | setStartMode zone mode => exact hs.request_quiet h (.ownSetStartMode zone mode s) (.ownSetStartMode zone mode s)
  | setConditioning kT kH base =>
    exact hs.request_quiet h (.ownSetConditioning kT kH base s) (.ownSetConditioning kT kH base s)
  | readConditioning => exact hs.request_frame h (.refl s)
  | setLoop => exact hs.request_quiet h (.ownSetLoop ..) (.ownSetLoop ..)
  | loopReturn loop => exact hs.request_quiet h (.ownLoopReturn loop s) (.ownLoopReturn loop s)
  | clearLoopFlags loop o x a => exact hs.request_quiet h (.ownClearLoopFlags loop o x a s) (.ownClearLoopFlags loop o x a s)
  | abortRelease zone => exact hs.request_quiet h (.ownAbortRelease zone s) (.ownAbortRelease zone s)
  | manualRelease zone => exact hs.request h (hs.ownManualRelease zone)
  | resetAlarm zone => exact hs.request_quiet h (.ownResetAlarm zone s) (.ownResetAlarm zone s)
  | bankReloaded => exact hs.request_quiet h (.ownBankReloaded s) (.ownBankReloaded s)
  | setRelease scope b0 b1 b2 b3 =>
    exact hs.request_quiet h (.ownSetRelease scope b0 b1 b2 b3 s) (.ownSetRelease scope b0 b1 b2 b3 s)
  | status => exact hs.request_frame h (.refl s)
  | clearEvents choice => exact hs.request_frame h (.of_eq rfl rfl)
  | setEventEnable enables => exact hs.request_quiet h (.ownSetEventEnable enables s) (.ownSetEventEnable enables s)
  | setClock count => exact hs.request_frame h (.ownSetClock count s)
  | readClock => exact hs.request_frame h (.refl s)
  | setLine line level => exact hs.request_quiet h (.ownSetLine line level s) (.ownSetLine line level s)
  | setExpect levels => exact hs.request_quiet h (.ownSetExpect levels s) (.ownSetExpect levels s)
  | setLineFunction direction line function zone =>
    exact hs.request_frame h (.ownSetLineFunction direction line function zone s)
  | setTimers handover release openLimit =>
    exact hs.request_quiet h (.ownSetTimers handover release openLimit s) (.ownSetTimers handover release openLimit s)
  | setClassLimit cls limit => exact hs.request_quiet h (.ownSetClassLimit cls limit s) (.ownSetClassLimit cls limit s)
  | storeSettings => exact hs.request_quiet h (.ownStoreSettings s) (.ownStoreSettings s)
  | setLinkRate link divisor => exact hs.request_frame h (.ownSetLinkRate link divisor s)
  | identifyPart => exact hs.request_frame h (.refl s)
  | identify badge code => exact hs.request_frame h (.ownIdentify badge code s)
  | declare consignment caseT caseH => exact hs.request h (hs.ownDeclare consignment caseT caseH)
  | deposit label => exact hs.request h (hs.ownDeposit label)
  | accept label => exact hs.request_frame h (.ownChoose label .accepted s)
  | decline label => exact hs.request_frame h (.ownChoose label .declined s)
  | view => exact hs.request_frame h (.ownView s)
  | finish => exact hs.request h hs.ownFinish
  | leave => exact hs.request h hs.ownLeave
  | hatchStatus => exact hs.request_frame h (.refl s)
  | unknownRequest k code ps =>
    exact hs.event (f := fun s => if (s.link k).receiving then s else s.frameCompletes k code ps) h
      (by split; exacts [hs, hs.frame ((links s k).frameCompletes (.refl s) code ps)])
  | frameDiscard k =>
    exact hs.event (f := fun s => if (s.link k).receiving then s.discardFrame k else s) h
      (hs.frame ((links s k).discardIf (.refl s) _))
  | frameGapTimeout k =>
    exact hs.timed (left := fun s => (s.link k).gapLeft)
      (f := fun s => if (s.link k).receiving then s.discardFrame k else s) h (hs.frame ((links s k).discardIf (.refl s) _))
  | responseSent k => exact hs.event (f := fun s => s.responseEnds k) h (hs.frame ((links s k).responseEnds (.refl s)))
  | handoverTimerExpiry => exact hs.event h hs.handoverExpiry
  | releaseTimerExpiry => exact hs.event h (hs.releaseExpiry hd)
  | hatchOpenLimitReached => exact hs.event h (hs.frame (.openLimitReached s))
  | verificationWindowExpiry z =>
    exact hs.event (f := fun s => s.windowExpiry z) h (hs.frame (.of_quiet (.windowExpiry s z) (.windowExpiry s z)))
  | countdownExpiry z => exact hs.event (f := fun s => s.countdownExpiry z) h (hs.frame (.countdownExpiry s z))
  | releasePulseEnd => exact hs.event h (hs.frame (.of_quiet (.pulseEnd s) (.pulseEnd s)))
  | climateSample z counts =>
    exact hs.timed (left := fun s => (s.zones.get z).sampleLeft) (f := fun s => s.sampleClimate z counts) h
      (hs.sampleClimate z counts)
  | loopSample z count =>
    exact hs.timed (left := fun s => (s.zones.get z).loopLeft) (f := fun s => s.sampleLoop z count) h (hs.sampleLoop z count)
  | elapsedMinuteTick =>
    exact hs.timed (f := fun s => { s.minuteTick with minuteLeft := 60000 }) h
      (hs.frame ((State.StagedFrame.minuteTick s).trans (.of_eq rfl rfl)))
  | elapsedHourTick =>
    exact hs.timed (f := fun s => { (if s.ret.clockValid then s.overdueCheck else s) with hourLeft := 3600000 }) h
      (hs.frame ((State.StagedFrame.hourTick s).trans (.of_eq rfl rfl)))
  | siteClockSecond => cases h; exact hs.frame (.of_quiet (.clockSecond s) (.clockSecond s))
  | storeWriteComplete => exact hs.event h (hs.frame (.of_quiet (.storeComplete s) (.storeComplete s)))
  | inputLineChange n level => exact hs.event (f := fun s => s.lineChange n level) h (hs.lineChange n level)
  | resetAssert => exact hs.execResetAssert h
  | powerLoss => exact hs.execPowerLoss h
  | startUp => exact hs.execStartUp h
  | startUpComplete pins climate loops => exact hs.execStartUpComplete h
  | backupBelowRetention => exact hs.execBackupBelowRetention h
  | characterReceived k char ok =>
    exact hs.event (f := fun s => s.character k char ok) h (hs.frame ((links s k).character (.refl s) char ok))

end State.StagedMatch

theorem State.Inv.stagedMatch {s : State} (h : s.Inv) : s.StagedMatch := (s.stagedLaw_iff h.custodyLaw.order).mp h.staged

/-- Every step keeps the law: a command of the queue does, and the idle millisecond touches timers alone. -/
theorem State.Inv.step_stagedMatch {s t : State} (hi : s.Inv) (h : step s = .next t) : t.StagedMatch := by
  unfold step at h
  split at h
  · cases h; exact hi.stagedMatch.frame (.idle s)
  · next rest _ =>
    have taken := hi.setPending rest
    exact taken.stagedMatch.exec taken.custodyLaw taken.hallLaw.desk h

/-- Settles O57, from the law of STAGED records and the label order that every step keeps. -/
theorem stepKeepsStagedRecords : Obligations.StepKeepsStagedRecords := fun _ t hi h =>
  (t.stagedLaw_iff (hi.step_custodyLaw h).order).mpr (hi.step_stagedMatch h)

end Sys2Proof.Machine
end

section
/-! The requests that open, fill and offer a manifest (R23, R76 to R79, R83): the tests of each and the manifest it leaves. -/

namespace Sys2Proof.Machine

open Host

/-! ### Tests one after another -/

/-- A test that passes leaves the request to those after it. -/
theorem judged_of_pass {s t : State} {k : LinkId} {code : Byte} {x : Status} {tests : List (Bool × Status)} {results : List Byte}
    {fails : Bool} {answer : Outcome State Fault Refusal} (h : fails = false) (ha : answer = judged s k code tests t results) :
    answer = judged s k code ((fails, x) :: tests) t results := by subst h; exact ha

/-- A test that fails refuses the request. -/
theorem judged_of_fail {s t : State} {k : LinkId} {code : Byte} {x : Status} {tests : List (Bool × Status)} {results : List Byte}
    {fails : Bool} (h : fails = true) :
    .next (s.answered k code x []) = judged s k code ((fails, x) :: tests) t results := by subst h; rfl

/-- A manifest is BUILDING, or there is none for the requests that ask for one (R77 to R79). -/
theorem State.building_cases {s : State} {m : Manifest} (h : s.manifest = some m) :
    (m.stage = .building ∧ s.building = some m) ∨ (m.stage ≠ .building ∧ s.building = none) := by
  by_cases hx : m.stage = .building <;> simp [State.building, h, hx]

theorem State.building_of_free {s : State} (h : s.manifest = none) : s.building = none := by simp [State.building, h]

theorem whenIdentified_identified {s : State} {e : Fin 16} (h : s.hatch = .identified e) (f : Fin 16 → Answer) :
    whenIdentified s f = f e := by simp only [whenIdentified, h]

/-! ### OPEN_MANIFEST, DECLARE and OFFER_MANIFEST (R76, R79, R83) -/

theorem FireState.forbidsHandover_iff (f : FireState) :
    f.forbidsHandover = true ↔ (∃ left held, f = .countdown left held) ∨ f = .discharged := by
  cases f <;> simp [FireState.forbidsHandover, FireState.isCountdown]

theorem caseValue_eq {lo hi : Int} (h : lo ≤ hi) (i : Option Int) : caseValue lo hi i = i.map fun n => max lo (min hi n) :=
  Option.map_congr fun _ _ => clampInt_eq h

/-- A humidity that is sent is no less than 0, and is held at 1000 (R83). -/
theorem caseValue_humidity (h : Option (BitVec 16)) :
    caseValue 0 1000 (h.map fun h => (h.toNat : Int)) = h.map fun h => min 1000 (h.toNat : Int) := by
  rw [caseValue_eq (by decide), Option.map_map]
  refine Option.map_congr fun n _ => ?_
  dsimp only [Function.comp_apply]
  omega

theorem ownOpenManifest_badParam {s : State} {direction courier : Byte} {consignment due : BitVec 16}
    (h : direction ≠ 0 ∨ entryOf courier = none ∨ due.toNat < 1 ∨ 8760 < due.toNat) :
    ownOpenManifest direction courier consignment due s = refused s .badParam := by
  unfold ownOpenManifest
  split
  · rfl
  · next he => exact if_pos (by simpa [he] using h)

theorem openManifest_judged {s : State} {courier : Byte} {consignment due : BitVec 16} {e : Fin 16}
    (htake : s.takes .facility (.openManifest 0 courier consignment due)) (he : entryOf courier = some e)
    (hlo : 1 ≤ due.toNat) (hhi : due.toNat ≤ 8760) :
    let m : Manifest :=
      { stage := .building, route := .outbound due.toNat, courier := e, consignment := consignment, items := [] }
    exec (.openManifest 0 courier consignment due) s = judged s .facility 0x20
      [(s.ret.couriers[e].isNone, .notFound), (s.ret.couriers[e].any Courier.locked, .courierLocked),
        (!s.ret.clockValid, .clockInvalid), (s.manifest.isSome, .busy)]
      { s with manifest := some m } (s.header m) := by
  refine (takeRequest_taken (ownOpenManifest 0 courier consignment due) htake).trans ?_
  have inRange : ¬ ((0 : Byte) ≠ 0 ∨ due.toNat < 1 ∨ 8760 < due.toNat) := by simp; omega
  simp only [ownOpenManifest, he, if_neg inRange]
  cases hc : s.ret.couriers[e] with
  | none => rfl
  | some c =>
    refine judged_of_pass rfl ?_
    exact judged_of_if (by simp) fun _ => judged_of_if (by simp) fun _ => judged_of_if (by simp) fun _ => rfl

theorem declare_judged {s : State} {consignment : BitVec 16} {caseT caseH : Option (BitVec 16)} {e : Fin 16}
    (htake : s.takes .hatch (.declare consignment caseT caseH)) (he : s.hatch = .identified e) :
    let m : Manifest :=
      { stage := .active, courier := e, consignment := consignment, items := []
        route := .inbound (caseT.map fun t => max (-400) (min 850 t.toInt)) (caseH.map fun h => min 1000 (h.toNat : Int)) }
    let t : State := { s with manifest := some m, handoverTimer := some (s.live.timers.handover * 1000) }
    exec (.declare consignment caseT caseH) s = judged s .hatch 0x61
      ([(s.manifest.isSome, .busy)] ++ s.gateTests .zc ++ [(s.anyCountdownOrDischarged, .zoneFire)]) t (t.header m) := by
  refine (takeRequest_taken (ownDeclare consignment caseT caseH) htake).trans ?_
  simp only [ownDeclare, whenIdentified_identified he, caseValue_humidity]
  rw [caseValue_eq (by decide), Option.map_map]
  refine judged_of_if (by simp) fun _ => ?_
  exact judged_of_answer s.hatchRefusal_eq (fun x hx => by rw [hx]) fun hx => by rw [hx]; rfl

theorem offerManifest_judged {s : State} {m : Manifest} (htake : s.takes .facility .offerManifest) (hm : s.manifest = some m) :
    let reached : Stage := if s.hatch = .identified m.courier then .active else .offered
    exec .offerManifest s = judged s .facility 0x23
      ([(decide (m.stage ≠ .building) || m.items.isEmpty, .wrongState)] ++ s.gateTests .zc
        ++ [(s.anyCountdownOrDischarged, .zoneFire)])
      { s with manifest := some { m with stage := reached }, handoverTimer := some (s.live.timers.handover * 1000) }
      [if reached = .active then 3 else 2] := by
  refine (takeRequest_taken ownOfferManifest htake).trans ?_
  rcases State.building_cases hm with ⟨hx, hb⟩ | ⟨hx, hb⟩
  · simp only [ownOfferManifest, hb, s.identified_eq_some]
    refine judged_of_if (by rw [Bool.decide_eq_true]; simp [hx]) fun _ => ?_
    refine judged_of_answer s.hatchRefusal_eq (fun x h => by rw [h]) fun h => ?_
    rw [h]
    by_cases hi : s.hatch = .identified m.courier 
    · simp only [if_pos hi]; rfl
    · simp only [if_neg hi]; rfl
  · simp only [ownOfferManifest, hb]
    exact judged_of_fail (by simp [hx])

/-- Settles O27: the zones that forbid a handover, and each request's tests and the manifest it leaves. -/
theorem manifestsAreClaimedAndOffered : Obligations.ManifestsAreClaimedAndOffered := by
  refine ⟨fun s => ?_, ⟨fun s direction courier consignment due htake =>
      ⟨fun h => takeRequest_refused htake (ownOpenManifest_badParam h), fun e hd he hlo hhi => ?_⟩,
    fun s consignment caseT caseH e htake he => declare_judged htake he⟩,
    fun s htake => ⟨fun h => takeRequest_refused htake ?_, fun m hm => offerManifest_judged htake hm⟩⟩
  · simp only [s.anyCountdownOrDischarged_iff, FireState.forbidsHandover_iff]
  · subst hd; exact openManifest_judged htake he hlo hhi
  · simp only [ownOfferManifest, State.building_of_free h]

/-! ### ADD_ITEM and DROP_ITEM (R23, R77, R78) -/

/-- Eligibility, test by test (R23). -/
theorem State.eligibilityRefusal_eq (s : State) {r : Record} {h : Fin 1536} (hh : r.state = .shelved → r.home = some h) :
    s.eligibilityRefusal r = firstFailing ([(decide (r.state ≠ .shelved), .wrongState)]
      ++ s.gateTests (s.zoneOfSlot h) ++ s.gateTests .zc ++ [(r.marks.exposed || r.marks.agent || r.marks.worn, .marked)]) := by
  by_cases hs : r.state = .shelved
  · rw [List.append_assoc, List.append_assoc, List.singleton_append, firstFailing_cons, if_neg (by simp [hs]),
      firstFailing_append, firstFailing_append, ← s.gate_eq, ← s.gate_eq]
    cases hg : s.gate (s.zoneOfSlot h) with
    | some x => simp [State.eligibilityRefusal, hs, hh hs, hg]
    | none => cases hc : s.gate .zc <;> simp [State.eligibilityRefusal, hs, hh hs, hg, hc, or_assoc]
  · have refusal : s.eligibilityRefusal r = some .wrongState := by
      unfold State.eligibilityRefusal
      split
      · next h _ => exact absurd h hs
      · rfl
    simp [refusal, hs]

theorem addItem_judged {s : State} {label : Label} {m : Manifest} {r : Record} {h : Fin 1536}
    (htake : s.takes .facility (.addItem label)) (hm : s.manifest = some m) (hl : labelOk label = true)
    (hf : s.find label = some r) (hh : r.state = .shelved → r.home = some h) :
    let listed := m.items ++ [{ label := label, state := .listed }]
    exec (.addItem label) s = judged s .facility 0x21
      ([(decide (m.stage ≠ .building), .wrongState), (m.items.any fun i => decide (i.label = label), .alreadyExists),
        (decide (24 ≤ m.items.length), .manifestFull), (decide (r.state ≠ .shelved), .wrongState)]
        ++ s.gateTests (s.zoneOfSlot h) ++ s.gateTests .zc
        ++ [(r.marks.exposed || r.marks.agent || r.marks.worn, .marked)])
      { s.modifyRecord label s.staged with manifest := some { m with items := listed } }
      ([byteOf listed.length] ++ s.summary (s.staged r)) := by
  refine (takeRequest_taken (ownAddItem label) htake).trans ?_
  rcases State.building_cases hm with ⟨hx, hb⟩ | ⟨hx, hb⟩
  · simp only [ownAddItem, hl, hb, hf, Bool.true_eq_false, if_false]
    refine judged_of_pass (by simp [hx]) ?_
    refine judged_of_if (by rw [findItem_isSome, Bool.decide_eq_true]) fun _ => judged_of_if rfl fun _ => ?_
    exact judged_of_answer (s.eligibilityRefusal_eq hh) (fun x hx => by rw [hx]) fun hx => by rw [hx]; rfl
  · simp only [ownAddItem, hl, hb, Bool.true_eq_false, if_false]
    exact judged_of_fail (by simp [hx])

theorem addItem_notFound {s : State} {label : Label} {m : Manifest} (htake : s.takes .facility (.addItem label))
    (hm : s.manifest = some m) (hl : labelOk label = true) (hf : s.find label = none) :
    exec (.addItem label) s = judged s .facility 0x21
      [(decide (m.stage ≠ .building), .wrongState), (m.items.any fun i => decide (i.label = label), .alreadyExists),
        (decide (24 ≤ m.items.length), .manifestFull), (true, .notFound)] s [] := by
  refine (takeRequest_taken (ownAddItem label) htake).trans ?_
  rcases State.building_cases hm with ⟨hx, hb⟩ | ⟨hx, hb⟩
  · simp only [ownAddItem, hl, hb, hf, Bool.true_eq_false, if_false]
    refine judged_of_pass (by simp [hx]) ?_
    exact judged_of_if (by rw [findItem_isSome, Bool.decide_eq_true]) fun _ => judged_of_if rfl fun _ => rfl
  · simp only [ownAddItem, hl, hb, Bool.true_eq_false, if_false]
    exact judged_of_fail (by simp [hx])

theorem dropItem_judged {s : State} {label : Label} {m : Manifest} {r : Record} (htake : s.takes .facility (.dropItem label))
    (hm : s.manifest = some m) (hf : s.find label = some r) :
    let rest := m.items.filter fun i => decide (i.label ≠ label)
    exec (.dropItem label) s = judged s .facility 0x22
      [(!labelOk label, .badParam), (decide (m.stage ≠ .building), .wrongState),
        (m.items.all fun i => decide (i.label ≠ label), .notFound)]
      { s.modifyRecord label s.reverted with manifest := some { m with items := rest } }
      ([byteOf rest.length] ++ s.summary (s.reverted r)) := by
  refine (takeRequest_taken (ownDropItem label) htake).trans ?_
  simp only [ownDropItem, hf, decide_not]
  refine judged_of_if (by simp) fun _ => ?_
  rcases State.building_cases hm with ⟨hx, hb⟩ | ⟨hx, hb⟩
  · rw [hb]
    refine judged_of_pass (by simp [hx]) ?_
    exact judged_of_if (by rw [findItem_isNone, Bool.decide_eq_true]; simp) fun _ => rfl
  · rw [hb]
    exact judged_of_fail (by simp [hx])

theorem dropItem_notFound {s : State} {label : Label} {m : Manifest} (htake : s.takes .facility (.dropItem label))
    (hm : s.manifest = some m) (hn : ∀ i ∈ m.items, i.label ≠ label) :
    exec (.dropItem label) s = judged s .facility 0x22
      [(!labelOk label, .badParam), (decide (m.stage ≠ .building), .wrongState), (true, .notFound)] s [] := by
  refine (takeRequest_taken (ownDropItem label) htake).trans ?_
  simp only [ownDropItem]
  refine judged_of_if (by simp) fun _ => ?_
  rcases State.building_cases hm with ⟨hx, hb⟩ | ⟨hx, hb⟩
  · rw [hb]
    refine judged_of_pass (by simp [hx]) ?_
    simp only [findItem_eq_none hn]
    rfl
  · rw [hb]
    exact judged_of_fail (by simp [hx])

/-- Settles O28: each request on a manifest that lists, on one that does not, and without a manifest. -/
theorem itemsAreListedAndDropped : Obligations.ItemsAreListedAndDropped := by
  refine ⟨fun s label m htake hm => ⟨fun hl => takeRequest_refused htake (if_pos hl),
      fun hl r h hf hh => addItem_judged htake hm hl hf hh, addItem_notFound htake hm⟩,
    fun s label m r htake hm hf => dropItem_judged htake hm hf, fun s label m htake hm hn => dropItem_notFound htake hm hn,
    fun s label hm => ⟨fun htake => (takeRequest_taken (ownAddItem label) htake).trans ?_,
      fun htake => (takeRequest_taken (ownDropItem label) htake).trans ?_⟩⟩
  · simp only [ownAddItem, State.building_of_free hm]
    exact judged_of_if (by simp) fun _ => rfl
  · simp only [ownDropItem, State.building_of_free hm]
    exact judged_of_if (by simp) fun _ => rfl

end Sys2Proof.Machine
end

section
/-! The requests of the courier on an ACTIVE manifest (R80, R81, R84, R90, R117, R118): ACCEPT, DECLINE and VIEW, and DEPOSIT
with the hold of a returned record. -/

namespace Sys2Proof.Machine

open Host

/-- A manifest is ACTIVE, or there is none for the requests of the visit (R80 to R84). -/
theorem State.active_cases {s : State} {m : Manifest} (h : s.manifest = some m) :
    (m.stage = .active ∧ s.active = some m) ∨ (m.stage ≠ .active ∧ s.active = none) := by
  by_cases hx : m.stage = .active <;> simp [State.active, h, hx]

theorem State.active_of_free {s : State} (h : s.manifest = none) : s.active = none := by simp [State.active, h]

/-! ### ACCEPT, DECLINE and VIEW (R80, R81, R90) -/

theorem ownChoose_judged {s : State} {e : Fin 16} {label : Label} {m : Manifest} (he : s.hatch = .identified e)
    (hm : s.manifest = some m) (code : Byte) (x : ItemState) :
    let a := ownChoose label x s
    (.next (a.state.answered .hatch code a.status a.results) : Outcome State Fault Refusal) = judged s .hatch code
      [(!labelOk label, .badParam), (decide (m.stage ≠ .active) || !m.route.isOutbound, .wrongState),
        (m.items.all fun i => decide (i.label ≠ label), .notFound)]
      { s with
        handoverTimer := some (s.live.timers.handover * 1000)
        manifest := some { m with items := m.items.map fun i => if i.label = label then { i with state := x } else i } }
      (label.toList ++ [byteOf x.number]) := by
  simp only [ownChoose, whenIdentified_identified he]
  refine judged_of_if (by simp) fun _ => ?_
  rcases State.active_cases hm with ⟨hx, ha⟩ | ⟨hx, ha⟩
  · rw [ha]
    cases hr : m.route with
    | inbound t h => simp only [hr]; exact judged_of_fail (by simp [Route.isOutbound])
    | outbound due =>
      simp only [hr]
      refine judged_of_pass (by simp [hx, Route.isOutbound]) ?_
      exact judged_of_if (by rw [findItem_isNone, Bool.decide_eq_true]) fun _ => rfl
  · rw [ha]
    exact judged_of_fail (by simp [hx])

/-- Without a manifest a choice is refused once its label is well formed. -/
theorem ownChoose_free {s : State} {e : Fin 16} (he : s.hatch = .identified e) (hm : s.manifest = none) (label : Label)
    (code : Byte) (x : ItemState) :
    let a := ownChoose label x s
    (.next (a.state.answered .hatch code a.status a.results) : Outcome State Fault Refusal) =
      judged s .hatch code [(!labelOk label, .badParam), (true, .wrongState)] s [] := by
  simp only [ownChoose, whenIdentified_identified he, State.active_of_free hm]
  exact judged_of_if (by simp) fun _ => rfl

/-- Settles O31: the choice of an item's state and the view, each with an ACTIVE manifest, another one and none. -/
theorem courierChoosesAndViews : Obligations.CourierChoosesAndViews := by
  refine ⟨fun s e label m he hm => ⟨fun htake => (takeRequest_taken (ownChoose label .accepted) htake).trans ?_,
      fun htake => (takeRequest_taken (ownChoose label .declined) htake).trans ?_⟩,
    fun s e m htake he hm => (takeRequest_taken ownView htake).trans ?_,
    fun s e label he hm => ⟨fun htake => (takeRequest_taken (ownChoose label .accepted) htake).trans ?_,
      fun htake => (takeRequest_taken (ownChoose label .declined) htake).trans ?_, fun htake => takeRequest_refused htake ?_⟩⟩
  · exact ownChoose_judged he hm 0x63 .accepted
  · exact ownChoose_judged he hm 0x64 .declined
  · rw [← List.flatMap_def]
    simp only [ownView, whenIdentified_identified he]
    rcases State.active_cases hm with ⟨hx, ha⟩ | ⟨hx, ha⟩
    · rw [ha]; exact judged_of_pass (by simp [hx]) rfl
    · rw [ha]; exact judged_of_fail (by simp [hx])
  · exact ownChoose_free he hm label 0x63 .accepted
  · exact ownChoose_free he hm label 0x64 .declined
  · simp only [ownView, whenIdentified_identified he, State.active_of_free hm]

/-! ### The hold (R117, R118) -/

/-- The weighted distances of the case values from ZC's targets, in tenths of a minute (R117). -/
def State.weightedDistance (s : State) (t h : Int) : Nat :=
  (t - (s.settings .zc).climate.tTarget).natAbs * s.live.conditioning.kT
    + (h - (s.settings .zc).climate.rhTarget).natAbs * s.live.conditioning.kH

theorem State.holdFor_some (s : State) (t h : Int) :
    s.holdFor (some t) (some h) = min 720 ((s.weightedDistance t h + 9) / 10 + s.live.conditioning.base) := rfl

theorem State.holdFor_none (s : State) (t h : Option Int) (hn : t = none ∨ h = none) : s.holdFor t h = 720 := by
  rcases hn with rfl | rfl
  · rfl
  · cases t <;> rfl

/-- The hold is the distance in tenths, rounded up, over the base, and at most 720 (R117). -/
theorem State.holdFor_bounds (s : State) (t h : Int) :
    let base := s.live.conditioning.base
    let tenth := s.holdFor (some t) (some h) - base
    s.holdFor (some t) (some h) ≤ 720 ∧
    (s.holdFor (some t) (some h) < 720 →
      base ≤ s.holdFor (some t) (some h) ∧ s.weightedDistance t h ≤ 10 * tenth ∧ 10 * tenth < s.weightedDistance t h + 10) ∧
    (s.holdFor (some t) (some h) = 720 → 10 * (720 - base) < s.weightedDistance t h + 10 ∨ 720 ≤ base) := by
  dsimp only
  rw [s.holdFor_some]
  generalize s.weightedDistance t h = weighted
  generalize s.live.conditioning.base = base
  omega

/-! ### DEPOSIT (R84) -/

/-- The state that DEPOSIT leaves once its tests pass (R84). -/
def State.deposited (s : State) (m : Manifest) (label : Label) (hold : Nat) (x : ItemState) : State :=
  { s.modifyRecord label (s.returned hold) with
    handoverTimer := some (s.live.timers.handover * 1000)
    manifest := some { m with items := m.items ++ [{ label := label, state := x }] } }

theorem deposit_judged {s : State} {e : Fin 16} {label : Label} {m : Manifest} {caseT caseH : Option Int} {x : ItemState}
    (htake : s.takes .hatch (.deposit label)) (he : s.hatch = .identified e) (hl : labelOk label = true)
    (hm : s.manifest = some m) (hx : m.stage = .active) (hr : m.route = .inbound caseT caseH)
    (hitem : depositItem (s.holdFor caseT caseH) m.courier (s.find label) = x) :
    exec (.deposit label) s = judged s .hatch 0x62
      [(decide (24 ≤ m.items.length), .manifestFull), (m.items.any fun i => decide (i.label = label), .alreadyExists)]
      ((s.deposited m label (s.holdFor caseT caseH) x).raiseIf (x.isReturned && decide (s.holdFor caseT caseH = 0)) .holdDone)
      (depositResults x) := by
  refine (takeRequest_taken (ownDeposit label) htake).trans ?_
  have active := State.active_of_stage hm hx
  cases m with
  | mk stage route courier consignment items =>
    obtain rfl : route = .inbound caseT caseH := hr
    simp only [ownDeposit, whenIdentified_identified he, hl, active, hitem, Bool.true_eq_false, if_false]
    exact judged_of_if rfl fun _ => judged_of_if (by rw [findItem_isSome, Bool.decide_eq_true]) fun _ => rfl

/-- Where no record of the label is OUT, DEPOSIT lists an item and leaves the table as it is (R84). -/
theorem State.deposited_of_not_out {s : State} {label : Label} (h : ∀ r ∈ s.ret.records, r.label = label → r.isOut = false)
    (m : Manifest) (hold : Nat) (x : ItemState) : s.deposited m label hold x =
      { s with
        handoverTimer := some (s.live.timers.handover * 1000)
        manifest := some { m with items := m.items ++ [{ label := label, state := x }] } } := by
  have table : s.modifyRecord label (s.returned hold) = s := by
    unfold State.modifyRecord
    rw [updateRecord_of_fixed _ _ _ fun r hr hl => s.returned_of_not_out hold (h r hr hl)]
    rfl
  rw [State.deposited, table]

theorem depositItem_of_not_out {r : Record} (h : r.isOut = false) (hold : Nat) (courier : Fin 16) :
    depositItem hold courier (some r) = .conflict := by
  unfold Record.isOut at h
  cases hs : r.state <;> simp_all [depositItem]

/-- The results of a RETURNED item: its hold, and whether another courier had it out (R84). -/
theorem depositResults_returned (hold : Nat) (courier present : Fin 16) :
    depositResults (.returned hold (decide (courier ≠ present))) = [3] ++ be16 hold ++ [if courier = present then 0 else 1] := by
  have other : yesNo (decide (courier ≠ present)) = if courier = present then 0 else 1 := by
    by_cases h : courier = present <;> simp [h, yesNo]
  rw [← other]
  rfl

/-- A well-formed DEPOSIT finds no ACTIVE INBOUND manifest. -/
theorem ownDeposit_wrongState {s : State} {e : Fin 16} {label : Label} (he : s.hatch = .identified e) (hl : labelOk label = true)
    (hn : ∀ m ∈ s.manifest, m.stage ≠ .active ∨ m.route.isOutbound = true) : ownDeposit label s = refused s .wrongState := by
  simp only [ownDeposit, whenIdentified_identified he, hl, Bool.true_eq_false, if_false]
  split
  · rfl
  · next m ha =>
    obtain ⟨hm, hx⟩ := State.active_eq_some ha
    split
    · rfl
    · next hr => exact absurd hx ((hn m hm).resolve_right (by simp [hr, Route.isOutbound]))

/-- Settles O32: the tests, the item by the record that is found, and the bounds of the hold. -/
theorem depositRecordsACartridge : Obligations.DepositRecordsACartridge := by
  refine ⟨fun s e label htake he => ⟨fun hl => takeRequest_refused htake ?_,
      fun hl hn => takeRequest_refused htake (ownDeposit_wrongState he hl hn), fun m caseT caseH hl hm hx hr =>
      ⟨fun hf => ?_, fun r hf ho hsole => ?_, fun r courier consignment due hf hs => ?_⟩⟩,
    fun s => ⟨s.holdFor_bounds, fun h => s.holdFor_none _ _ (.inl rfl), fun t => s.holdFor_none _ _ (.inr rfl)⟩⟩
  · simp only [ownDeposit, whenIdentified_identified he, hl, if_true]
  · refine (deposit_judged htake he hl hm hx hr (x := .unknown) (by rw [hf]; rfl)).trans ?_
    rw [State.deposited_of_not_out fun r hr hl => absurd hl (State.find_eq_none hf r hr)]
    rfl
  · refine (deposit_judged htake he hl hm hx hr (x := .conflict) (by rw [hf]; exact depositItem_of_not_out ho _ _)).trans ?_
    rw [State.deposited_of_not_out fun x hx hl => by rw [hsole x hx hl]; exact ho]
    rfl
  · have item : depositItem (s.holdFor caseT caseH) m.courier (s.find label) =
        .returned (s.holdFor caseT caseH) (decide (courier ≠ m.courier)) := by
      simp [hf, depositItem, hs]
    refine (deposit_judged htake he hl hm hx hr item).trans ?_
    rw [depositResults_returned, ItemState.isReturned, Bool.true_and]
    simp only [State.raiseIf, decide_eq_true_eq]
    rfl

end Sys2Proof.Machine
end

section
/-! The climate unit (R94 to R111): what a sample's arithmetic and accounting come to, CLIMATE_SAMPLE, and the requests that
reset a dose and set the climate settings and trims. -/

namespace Sys2Proof.Machine

open Host

/-! ### Readings and weights (R96, R100) -/

/-- How far a quantity is out of its band, as a number that may not fall below 0 (R100). -/
theorem excess_eq (value target band : Int) : (excess value target band : Int) = max 0 (|value - target| - band) := by
  rw [excess, Int.toNat_eq_max, Int.natCast_natAbs, max_comm]

/-- Settles O37: both conversions are clamps, each excess is a distance beyond its band, and the bound is that of a reading and
settings in their ranges. -/
theorem readingsAndWeights : Obligations.ReadingsAndWeights := by
  refine ⟨fun raw trim => ⟨clampInt_eq (by decide), clampInt_eq (by decide)⟩, fun c r => ?_, fun c counts hc => ?_⟩
  · simp only [weightOf, Nat.cast_add, Nat.cast_mul, Nat.cast_ofNat, excess_eq]
  · obtain ⟨climate, -⟩ := c.wf_iff.mp hc
    exact weightOf_le climate (converted_inRange counts c.trims)

/-! ### A sample's dose and climate state (R101, R103, R104) -/

/-- A weight adds to the dose, up to its ceiling, and a sample without one takes the recovery off (R101). -/
theorem nextDose_eq (c : ClimateSettings) (dose weight : Nat) : nextDose c dose weight =
    if 0 < weight then min 16777215 (dose + weight * c.period) else dose - c.recovery * c.period := by
  cases weight <;> simp [nextDose, doseCeiling]

/-- EXCURSION is left at dose 0 alone; any other state follows the thresholds (R103). -/
theorem nextClimate_eq (c : ClimateSettings) (dose : Nat) (x : ClimateState) : nextClimate c dose x =
    if x = .excursion then (if dose = 0 then .nominal else .excursion)
    else if c.exposure ≤ dose then .excursion else if c.alert ≤ dose then .alert else .nominal := by
  cases x <;> rfl

/-- The account that a weight leaves: the dose, and the climate state of that dose (R101, R103). -/
def ClimateAccount.after (a : ClimateAccount) (c : ClimateSettings) (weight : Nat) : ClimateAccount :=
  let dose := if 0 < weight then min 16777215 (a.dose + weight * c.period) else a.dose - c.recovery * c.period
  { dose := dose
    state :=
      if a.state = .excursion then (if dose = 0 then .nominal else .excursion)
      else if c.exposure ≤ dose then .excursion else if c.alert ≤ dose then .alert else .nominal }

theorem ClimateAccount.after_eq (a : ClimateAccount) (c : ClimateSettings) (weight : Nat) : a.after c weight =
    { dose := nextDose c a.dose weight, state := nextClimate c (nextDose c a.dose weight) a.state } := by
  rw [nextClimate_eq, nextDose_eq]; rfl

/-- The part once a zone has a new climate account: an entry into EXCURSION marks the records located in the zone, and an entry
into ALERT or EXCURSION raises its event (R103, R104). -/
def State.withAccount (s : State) (z : Zone) (a : ClimateAccount) : State :=
  let before := (s.ret.climate.get z).state
  let enters := before ≠ .excursion ∧ a.state = .excursion
  let expose (r : Record) : Record :=
    if s.location r = some z then { r with marks := { r.marks with exposed := true } } else r
  { s with
    ret := { s.ret with
      climate := s.ret.climate.set z a
      records := if enters then s.ret.records.map expose else s.ret.records }
    flags := if enters then s.flags ||| EventFlag.climateExcursion.mask
      else if before = .nominal ∧ a.state = .alert then s.flags ||| EventFlag.climateAlert.mask else s.flags }

theorem Record.expose_eq (r : Record) (p : Prop) [Decidable p] :
    r.expose (decide p) = if p then { r with marks := { r.marks with exposed := true } } else r := by
  by_cases h : p <;> simp [Record.expose, h]

theorem State.withAccount_enters {s : State} {z : Zone} {a : ClimateAccount}
    (h : (s.ret.climate.get z).state ≠ .excursion ∧ a.state = .excursion) :
    s.withAccount z a = ((s.setAccount z a).exposeZone z).raise .climateExcursion := by
  simp only [State.withAccount, if_pos h, State.exposeZone, Record.expose_eq]
  rfl

theorem State.withAccount_of_not_enters {s : State} {z : Zone} {a : ClimateAccount}
    (h : ¬ ((s.ret.climate.get z).state ≠ .excursion ∧ a.state = .excursion)) :
    s.withAccount z a = (s.setAccount z a).raiseIf
      (decide ((s.ret.climate.get z).state = .nominal) && decide (a.state = .alert)) .climateAlert := by
  simp only [State.withAccount, if_neg h, State.raiseIf, ← Bool.decide_and, decide_eq_true_eq]
  split <;> rfl

theorem State.account_eq (s : State) (z : Zone) (weight : Nat) :
    s.account z weight = s.withAccount z ((s.ret.climate.get z).after (s.settings z).climate weight) := by
  rw [ClimateAccount.after_eq]
  unfold State.account
  dsimp only
  split
  · next enters => exact (State.withAccount_enters enters).symm
  · next stays => exact (State.withAccount_of_not_enters stays).symm

/-! ### A sample (R94 to R98, R111) -/

/-- A count at either end of the converter's range is a sensor fault (R95). -/
theorem rawFault_or_iff (a b : BitVec 12) : (rawFault a || rawFault b) = true ↔
    (a.toNat = 0 ∨ a.toNat = 4095) ∨ (b.toNat = 0 ∨ b.toNat = 4095) := by
  simp [rawFault]

/-- A zone's live state written twice is the second (R94). -/
theorem State.setZone_setZone (s : State) (z : Zone) (v w : ZoneState) : (s.setZone z v).setZone z w = s.setZone z w := by
  simp only [State.setZone, PerZone.set_set]

/-- The part with a zone's sample taken: its sensor, and its timer begun again (R94). -/
def State.withSensor (s : State) (z : Zone) (x : Sensor) : State :=
  s.setZone z { s.zones.get z with sensor := x, sampleLeft := (s.settings z).climate.period * 1000 }

/-- What a fault leaves of a sensor (R98). -/
def Sensor.faulted (x : Sensor) (counts : RawCounts) (limit : Nat) : Sensor :=
  { x with
    status := if x.reading.isSome ∧ min 255 (x.staleCount + 1) < limit then .stale else .unknown
    staleCount := min 255 (x.staleCount + 1), lastGood := false, raw := some counts }

/-- A fault holds the reading, and raises its event when it brings the stale count to the limit (R98). -/
theorem State.sampleClimate_of_fault {s : State} {z : Zone} {counts : RawCounts}
    (h : (rawFault counts.t || rawFault counts.h) = true) :
    s.sampleClimate z counts =
      (s.withSensor z ((s.zones.get z).sensor.faulted counts (s.settings z).climate.staleLimit)).raiseIf
        (decide (min 255 ((s.zones.get z).sensor.staleCount + 1) = (s.settings z).climate.staleLimit)) .sensorStale := by
  unfold State.sampleClimate State.withSensor Sensor.faulted
  simp only [h, if_true, State.sensorFault, State.setZone_setZone, State.setZone_zones, PerZone.get_set_same, faultStatus,
    Bool.and_eq_true, decide_eq_true_eq]
  rfl

/-- The reading of a sample's counts, trimmed (R96). -/
def ZoneSettings.convert (c : ZoneSettings) (counts : RawCounts) : Reading :=
  { t := convertT counts.t c.trims.t, rh := convertH counts.h c.trims.h }

/-- The sensor of a good sample (R97). -/
def Sensor.read (c : ZoneSettings) (counts : RawCounts) : Sensor :=
  { reading := some (c.convert counts), status := .fresh, staleCount := 0, lastGood := true, raw := some counts
    weight := weightOf c.climate (c.convert counts) }

/-- The part after a good sample, before a heat test is made: accounted outside OFFLINE (R97, R102). -/
def State.afterReading (s : State) (z : Zone) (counts : RawCounts) : State :=
  let c := s.settings z
  let t := s.withSensor z (Sensor.read c counts)
  if (s.zones.get z).mode = .offline then t
  else t.withAccount z ((s.ret.climate.get z).after c.climate (weightOf c.climate (c.convert counts)))

/-- The zone is ALARMED and one of its heat tests holds (R111). -/
def State.heatKnocks (s : State) (z : Zone) (t : Int) : Prop :=
  let v := s.zones.get z
  let c := (s.settings z).release
  v.fire = .alarmed ∧
    (c.heatAbs ≤ t ∨ (v.sensor.lastGood = true ∧ ∃ r, v.sensor.reading = some r ∧ r.t + c.heatRise ≤ t))

/-- A good sample is read and accounted, and its heat test then made on a zone that is ALARMED (R97, R101, R111). -/
theorem State.sampleClimate_of_good {s : State} {z : Zone} {counts : RawCounts}
    (h : ¬ (rawFault counts.t || rawFault counts.h) = true) :
    (s.heatKnocks z (convertT counts.t (s.settings z).trims.t) →
      s.sampleClimate z counts = (s.afterReading z counts).secondKnock z) ∧
    (¬ s.heatKnocks z (convertT counts.t (s.settings z).trims.t) → s.sampleClimate z counts = s.afterReading z counts) := by
  simp only [State.heatKnocks, ← heatTest_iff, State.sampleClimate, if_neg h, State.goodSample, State.setZone_setZone,
    State.setZone_zones, PerZone.get_set_same, State.account_eq]
  exact ⟨fun knocks => if_pos knocks, fun calm => if_neg calm⟩

theorem exec_climateSample (z : Zone) (counts : RawCounts) (s : State) : exec (.climateSample z counts) s =
    whenDue (fun s => (s.zones.get z).sampleLeft) (fun s => s.sampleClimate z counts) s := rfl

/-- Settles O38: a sample that is not due, a fault, and a good sample with a heat knock or without. -/
theorem climateSampleIsAccounted : Obligations.ClimateSampleIsAccounted := by
  refine ⟨fun s z counts h => ?_, fun s z counts hrun hdue => ⟨fun hfault => ?_, fun hgood => ?_⟩⟩
  · rw [exec_climateSample, whenDue_early h]
  · rw [exec_climateSample, whenDue_due hrun hdue, State.sampleClimate_of_fault ((rawFault_or_iff ..).mpr hfault)]
    simp only [State.raiseIf, decide_eq_true_eq]
    split <;> rfl
  · rw [exec_climateSample, whenDue_due hrun hdue]
    obtain ⟨knocks, calm⟩ := s.sampleClimate_of_good (z := z) (mt (rawFault_or_iff ..).mp hgood)
    exact ⟨fun h => congrArg Outcome.next (knocks h), fun h => congrArg Outcome.next (calm h)⟩

/-! ### RESET_DOSE, SET_CLIMATE and SET_TRIM (R94, R107, R109, R110) -/

/-- A number that is not negative needs only the upper end of a range from 0. -/
theorem clampInt_zero_natCast {hi : Int} (h : 0 ≤ hi) (n : Nat) : clampInt 0 hi n = min hi n := by
  rw [clampInt_eq h]; omega

/-- A number that its field holds below the upper end needs only the lower end. -/
theorem clampNat_of_le {lo hi n : Nat} (hn : n ≤ hi) (h : lo ≤ hi) : clampNat lo hi n = max lo n := by
  rw [clampNat_eq h, min_eq_right hn]

/-- The climate settings of a request, each held within its range (R109). -/
theorem clampedClimate_eq (period stale : Byte) (rh : BitVec 16) (rhBand : Byte) (t : BitVec 16) (tBand recovery : Byte)
    (alert exposure : BitVec 24) : clampedClimate period stale rh rhBand t tBand recovery alert exposure =
      { period := max 1 (min 60 period.toNat), staleLimit := max 1 (min 20 stale.toNat)
        rhTarget := min 1000 (rh.toNat : Int), rhBand := min 200 (rhBand.toNat : Int)
        tTarget := max (-100) (min 400 t.toInt), tBand := min 100 (tBand.toNat : Int), recovery := recovery.toNat
        alert := max 1 (min 16777214 alert.toNat), exposure := max 2 exposure.toNat } := by
  have recoveryFits : recovery.toNat ≤ 255 := by omega
  have exposureFits : exposure.toNat ≤ 16777215 := by omega
  rw [clampedClimate, ClimateSettings.mk.injEq]
  exact ⟨clampNat_eq (by decide), clampNat_eq (by decide), clampInt_zero_natCast (by decide) _,
    clampInt_zero_natCast (by decide) _, clampInt_eq (by decide), clampInt_zero_natCast (by decide) _,
    (clampNat_of_le recoveryFits (by decide)).trans (Nat.zero_max _), clampNat_eq (by decide),
    clampNat_of_le exposureFits (by decide)⟩

theorem clampedTrims_eq (trimT trimH : Byte) : clampedTrims trimT trimH =
    { t := max (-50) (min 50 trimT.toInt), h := max (-50) (min 50 trimH.toInt) } := by
  rw [clampedTrims, clampInt_eq (by decide), clampInt_eq (by decide)]

theorem resetDose_judged {s : State} {zone : Byte} {z : Zone} (htake : s.takes .facility (.resetDose zone))
    (hz : zoneOf zone = some z) :
    exec (.resetDose zone) s = judged s .facility 0x34 [(decide (s.mode z ≠ .offline), .zoneMode)]
      (s.setAccount z { dose := 0, state := .nominal }) [zone, 0, 0, 0, 0] := by
  refine (takeRequest_taken (ownResetDose zone) htake).trans ?_
  simp only [ownResetDose, hz]
  refine judged_of_if rfl fun _ => ?_
  rw [zoneOf_byte hz]
  rfl

theorem setClimate_judged {s : State} {zone period stale : Byte} {rh : BitVec 16} {rhBand : Byte} {t : BitVec 16}
    {tBand recovery : Byte} {alert exposure : BitVec 24} {z : Zone}
    (htake : s.takes .facility (.setClimate zone period stale rh rhBand t tBand recovery alert exposure))
    (hz : zoneOf zone = some z) :
    let c := clampedClimate period stale rh rhBand t tBand recovery alert exposure
    exec (.setClimate zone period stale rh rhBand t tBand recovery alert exposure) s = judged s .facility 0x32
      [(decide (c.exposure ≤ c.alert), .badParam), (decide (s.mode z ≠ .offline), .zoneMode), (s.storeBusy, .storeBusy)]
      ((s.setSettings z { s.settings z with climate := c }).setZone z { s.zones.get z with sampleLeft := c.period * 1000 })
      c.bytes := by
  intro c
  refine (takeRequest_taken (ownSetClimate zone c) htake).trans ?_
  simp only [ownSetClimate, hz]
  exact judged_of_if rfl fun _ => judged_of_if rfl fun _ => judged_of_if (by simp) fun _ => rfl

theorem setTrim_judged {s : State} {zone trimT trimH : Byte} {z : Zone}
    (htake : s.takes .facility (.setTrim zone trimT trimH)) (hz : zoneOf zone = some z) :
    let v := s.zones.get z
    let x := clampedTrims trimT trimH
    exec (.setTrim zone trimT trimH) s = judged s .facility 0x35
      [(decide (s.mode z ≠ .offline), .zoneMode), (s.storeBusy, .storeBusy)]
      ((s.setSettings z { s.settings z with trims := x }).setZone z { v with sensor := { v.sensor with lastGood := false } })
      (beS8 x.t ++ beS8 x.h) := by
  refine (takeRequest_taken (ownSetTrim zone trimT trimH) htake).trans ?_
  simp only [ownSetTrim, hz]
  exact judged_of_if rfl fun _ => judged_of_if (by simp) fun _ => rfl

/-- Settles O39: a zone that is none is refused, and otherwise each request's tests judge what it sets. -/
theorem climateRequests : Obligations.ClimateRequests := by
  refine ⟨fun s zone htake =>
      ⟨fun h => takeRequest_refused htake (by rw [ownResetDose, h]), fun z hz => resetDose_judged htake hz⟩,
    fun s zone period stale rh rhBand t tBand recovery alert exposure => ?_,
    fun s zone trimT trimH htake => ⟨fun h => takeRequest_refused htake (by rw [ownSetTrim, h]), fun z hz => ?_⟩⟩
  · intro request htake
    refine ⟨fun h => takeRequest_refused htake (by rw [ownSetClimate, h]), fun z hz => ?_⟩
    refine (setClimate_judged htake hz).trans ?_
    have sent : byteOf recovery.toNat = recovery := by simp [byteOf]
    simp only [clampedClimate_eq, ClimateSettings.bytes, sent]
    rfl
  · refine (setTrim_judged htake hz).trans ?_
    rw [clampedTrims_eq]
    rfl

end Sys2Proof.Machine
end

section
/-! The conditioning unit (R120 to R122): the gate, the records that complete their hold at a minute tick, and
ELAPSED_MINUTE_TICK. -/

namespace Sys2Proof.Machine

open Host

theorem State.gateOpen_iff (s : State) : s.gateOpen = true ↔
    (s.zones.get .zc).sensor.status = .fresh ∧ s.climate .zc ≠ .excursion ∧ s.fire .zc = .quiet := by
  simp [State.gateOpen, State.chamberFresh, and_assoc]

theorem Record.completes_iff (r : Record) : r.completes = true ↔ ∃ hold, r.state = .conditioning hold ∧ hold ≤ 1 := by
  cases hs : r.state <;> simp [Record.completes, hs]

/-- HOLD_DONE is due when some record completes its hold (R122). -/
theorem any_completes_iff (rs : List Record) : rs.any Record.completes = true ↔
    ∃ r ∈ rs, ∃ hold, r.state = .conditioning hold ∧ hold ≤ 1 := by
  simp only [List.any_eq_true, Record.completes_iff]

theorem any_completes_eq_false {rs : List Record} (h : ∀ r ∈ rs, ∀ hold, r.state = .conditioning hold → 1 < hold) :
    rs.any Record.completes = false := by
  rw [← Bool.not_eq_true, any_completes_iff]
  rintro ⟨r, hr, hold, hs, hle⟩
  exact (h r hr hold hs).not_ge hle

/-- With the gate closed the tick is lost (R120). -/
theorem State.minuteTick_of_closed {s : State} (h : ¬ s.gateOpen = true) : s.minuteTick = s := if_neg h

theorem State.minuteTick_of_open {s : State} (h : s.gateOpen = true) : s.minuteTick =
    { s with
      ret := { s.ret with records := s.ret.records.map Record.minute }
      flags := s.flags ||| (if s.ret.records.any Record.completes then EventFlag.holdDone.mask else 0) } := by
  rw [State.minuteTick, if_pos h, State.raiseIf_eq]
  rfl

theorem exec_elapsedMinuteTick (s : State) : exec .elapsedMinuteTick s =
    whenDue State.minuteLeft (fun s => { s.minuteTick with minuteLeft := 60000 }) s := rfl

/-- Settles O40: a tick that is not due, one that finds the gate closed, and one that finds it open. -/
theorem minuteTickCountsHolds : Obligations.MinuteTickCountsHolds := by
  refine ⟨fun s h => ?_, fun s hrun hdue => ⟨s.gateOpen_iff, fun hclosed => ?_, fun hopen => ?_⟩⟩
  · rw [exec_elapsedMinuteTick, whenDue_early h]
  · rw [exec_elapsedMinuteTick, whenDue_due hrun hdue, State.minuteTick_of_closed (mt s.gateOpen_iff.mp hclosed)]
  · have ticked := State.minuteTick_of_open (s.gateOpen_iff.mpr hopen)
    refine ⟨s.minuteTick.flags, ?_, fun hdone => ?_, fun hnone => ?_⟩
    · rw [exec_elapsedMinuteTick, whenDue_due hrun hdue, ticked]
    · rw [ticked, if_pos ((any_completes_iff _).mpr hdone)]
    · rw [ticked, any_completes_eq_false hnone]
      exact BitVec.or_zero

end Sys2Proof.Machine
end

section
/-! A loop under one sample (R128 to R135, R138): the class of a value, what a sample notes whatever the loop's state, and one
equation for each thing that it then does to a loop in service and to an ISOLATED one. -/

namespace Sys2Proof.Machine

open Host

/-- The rows of R128 share no value when the thresholds are in their order. -/
theorem classify_rows {c : LoopSettings} (n : Nat) (hopen : c.openMax < c.normalMax) (hnormal : c.normalMax < c.alarmMax) :
    (classify c n = .openCircuit ↔ n ≤ c.openMax) ∧ (classify c n = .normal ↔ c.openMax < n ∧ n ≤ c.normalMax) ∧
    (classify c n = .alarm ↔ c.normalMax < n ∧ n ≤ c.alarmMax) ∧ (classify c n = .short ↔ c.alarmMax < n) := by
  unfold classify
  split_ifs <;> simp only [true_iff, false_iff] <;> omega

theorem LoopClass.isFault_iff (cls : LoopClass) : cls.isFault = true ↔ cls = .openCircuit ∨ cls = .short := by
  cases cls <;> simp [LoopClass.isFault]

/-- The loop with a sample's value, class and fault flag, its counter and its recovery run as they stood (R128, R138). -/
def Loop.noting (l : Loop) (c : LoopSettings) (value : Nat) : Loop :=
  { l with latest := some (value, classify c value), flags := l.flags.capture c.capture (classify c value) }

theorem Loop.sample_inService {l : Loop} (h : l.state ≠ .isolated) (c : LoopSettings) (value : Nat) :
    l.sample c value = (l.noting c value).sampleInService c.policy (classify c value) := if_neg h

theorem Loop.sample_isolated {l : Loop} (h : l.state = .isolated) (c : LoopSettings) (value : Nat) :
    l.sample c value = (l.noting c value).sampleIsolated c.policy (classify c value) := if_pos h

/-! ### A loop in service (R129 to R131) -/

theorem Loop.sampleInService_counts_fault {l : Loop} {cls : LoopClass} (policy : Policy)
    (hfault : cls = .openCircuit ∨ cls = .short) (hroom : l.trouble + 8 ≤ 255) :
    l.sampleInService policy cls = l.count (l.trouble + 8) := by
  rw [Loop.sampleInService, if_pos (cls.isFault_iff.mpr hfault), if_neg hroom.not_gt]

/-- A fault that the counter cannot take isolates the loop (R131). -/
theorem Loop.sampleInService_isolates {l : Loop} {cls : LoopClass} (policy : Policy)
    (hfault : cls = .openCircuit ∨ cls = .short) (hfull : 255 < l.trouble + 8) :
    l.sampleInService policy cls =
      { quietly { l with state := .isolated, trouble := 255, run := 0 } with
        isolated := true, freezes := decide (policy = .freezeAtIsolate) } := by
  rw [Loop.sampleInService, if_pos (cls.isFault_iff.mpr hfault), if_pos hfull]

theorem Loop.sampleInService_normal (l : Loop) (policy : Policy) :
    l.sampleInService policy .normal = l.count (l.trouble - 1) := rfl

theorem Loop.sampleInService_alarm (l : Loop) (policy : Policy) : l.sampleInService policy .alarm = quietly l := rfl

/-! ### An ISOLATED loop (R132 to R135) -/

theorem Loop.sampleIsolated_breaks_run {l : Loop} {cls : LoopClass} (policy : Policy) (h : cls ≠ .normal) :
    l.sampleIsolated policy cls = quietly { l with run := 0, ready := false } := if_neg h

theorem Loop.sampleIsolated_lengthens_run {l : Loop} (policy : Policy) (h : l.run < 63) :
    l.sampleIsolated policy .normal = quietly { l with run := l.run + 1 } := by
  have hrun : min 64 (l.run + 1) = l.run + 1 := by omega
  rw [Loop.sampleIsolated, if_pos rfl, hrun]
  exact if_neg (by omega)

/-- The 64th NORMAL sample completes the run, and so does each one after it (R133). -/
theorem Loop.sampleIsolated_completes_run {l : Loop} (policy : Policy) (h : 63 ≤ l.run) :
    l.sampleIsolated policy .normal = ({ l with run := 64 } : Loop).completeRun policy := by
  have hrun : min 64 (l.run + 1) = 64 := by omega
  rw [Loop.sampleIsolated, if_pos rfl, hrun]
  exact if_pos rfl

/-! ### The settled statement -/

/-- Settles O41: the classes by their rows; a sample by the loop that notes it, and then by its class and the loop's counter
or run. -/
theorem loopFollowsItsSamples : Obligations.LoopFollowsItsSamples := by
  refine ⟨fun c n => classify_rows n, fun l c value => ?_⟩
  intro cls f catches seen l' standing sound counted effect
  have noted : l.noting c value = l' :=
    congrArg (fun flags => ({ l with latest := some (value, cls), flags := flags } : Loop)) (f.capture_eq c.capture cls)
  refine ⟨fun hservice => ?_, fun hisolated => ?_⟩
  · have sampled : effect = l'.sampleInService c.policy cls := noted ▸ l.sample_inService hservice c value
    rw [sampled]
    refine ⟨fun hfault hroom => l'.sampleInService_counts_fault c.policy hfault hroom,
      fun hfault hfull => l'.sampleInService_isolates c.policy hfault hfull, fun hcls => ?_, fun hcls => ?_⟩
    · rw [hcls]; exact l'.sampleInService_normal c.policy
    · rw [hcls]; exact l'.sampleInService_alarm c.policy
  · have sampled : effect = l'.sampleIsolated c.policy cls := noted ▸ l.sample_isolated hisolated c value
    rw [sampled]
    refine ⟨fun hcls => l'.sampleIsolated_breaks_run c.policy hcls, fun hcls hrun => ?_, fun hcls hrun => ?_⟩
    · rw [hcls]; exact l'.sampleIsolated_lengthens_run c.policy hrun
    · rw [hcls, l'.sampleIsolated_completes_run c.policy hrun]
      cases c.policy <;> rfl

end Sys2Proof.Machine
end

section
/-! The requests on loops (R136, R139 to R141): SET_LOOP, LOOP_RETURN and CLEAR_LOOP_FLAGS. -/

namespace Sys2Proof.Machine

open Host

theorem policyOf_byte {b : Byte} {p : Policy} (h : policyOf b = some p) : byteOf p.number = b := by
  rw [← (policyOf_eq_some_iff b p).mp h]; simp [byteOf]

theorem captureOf_byte {b : Byte} {m : Capture} (h : captureOf b = some m) : byteOf m.number = b := by
  rw [← (captureOf_eq_some_iff b m).mp h]; simp [byteOf]

theorem ownSetLoop_badParam {s : State} {loop : Byte} {openMax normalMax alarmMax : BitVec 16} {policy capture : Byte}
    (h : zoneOf loop = none ∨ policyOf policy = none ∨ captureOf capture = none) :
    ownSetLoop loop openMax normalMax alarmMax policy capture s = refused s .badParam := by
  unfold ownSetLoop
  split
  · next hz hp hm => simp [hz, hp, hm] at h
  · rfl

/-- SET_LOOP's tests in their order, and the loop's new settings (R140, R141). -/
theorem setLoop_judged {s : State} {loop : Byte} {openMax normalMax alarmMax : BitVec 16} {policy capture : Byte}
    {z : Zone} {p : Policy} {m : Capture}
    (htake : s.takes .facility (.setLoop loop openMax normalMax alarmMax policy capture))
    (hz : zoneOf loop = some z) (hp : policyOf policy = some p) (hm : captureOf capture = some m) :
    let c : LoopSettings :=
      { openMax := openMax.toNat, normalMax := normalMax.toNat, alarmMax := alarmMax.toNat, policy := p, capture := m }
    let l := (s.zones.get z).loop
    exec (.setLoop loop openMax normalMax alarmMax policy capture) s = judged s .facility 0x40
      [(decide (1023 < openMax.toNat ∨ 1023 < normalMax.toNat ∨ 1023 < alarmMax.toNat), .badParam),
        (decide (¬ (openMax.toNat < normalMax.toNat ∧ normalMax.toNat < alarmMax.toNat)), .badParam),
        (decide (s.mode z ≠ .offline), .zoneMode), (s.storeBusy, .storeBusy)]
      ((s.setSettings z { s.settings z with loop := c }).setLoop z { l with ready := l.ready && decide (p = .onRequest) })
      c.bytes := by
  intro c l
  refine (takeRequest_taken (ownSetLoop loop openMax normalMax alarmMax policy capture) htake).trans ?_
  simp only [ownSetLoop, hz, hp, hm]
  exact judged_of_if rfl fun _ => judged_of_if rfl fun _ => judged_of_if rfl fun _ => judged_of_if (by simp) fun _ => rfl

/-- LOOP_RETURN's test and the loop it returns, with LOOP_RECOVERED under ON_REQUEST and recovery ready (R136). -/
theorem loopReturn_judged {s : State} {loop : Byte} {z : Zone} (htake : s.takes .facility (.loopReturn loop))
    (hz : zoneOf loop = some z) :
    let l := (s.zones.get z).loop
    exec (.loopReturn loop) s = judged s .facility 0x41 [(decide (l.state ≠ .isolated), .wrongState)]
      ((s.setLoop z l.returned).raiseIf (decide ((s.settings z).loop.policy = .onRequest) && l.ready) .loopRecovered)
      [loop, 0] := by
  refine (takeRequest_taken (ownLoopReturn loop) htake).trans ?_
  simp only [ownLoopReturn, hz, zoneOf_byte hz]
  exact judged_of_if rfl fun _ => rfl

/-- LOOP_RECOVERED comes of a return that the ON_REQUEST policy and recovery ready made due (R136). -/
theorem State.raiseIf_onRequest_ready (s : State) (policy : Policy) (ready : Bool) :
    s.raiseIf (decide (policy = .onRequest) && ready) .loopRecovered =
      { s with
        flags := if policy = .onRequest ∧ ready = true then s.flags ||| EventFlag.loopRecovered.mask else s.flags } := by
  by_cases hp : policy = .onRequest <;> cases ready <;> simp [State.raiseIf, State.raise, hp]

/-- Settles O43: a parameter that names nothing is refused, and otherwise each request's tests judge what it changes. -/
theorem loopRequests : Obligations.LoopRequests := by
  refine ⟨fun s loop openMax normalMax alarmMax policy capture => ?_,
    fun s loop htake => ⟨fun h => takeRequest_refused htake (by rw [ownLoopReturn, h]), fun z hz => ?_⟩,
    fun s loop o h a htake => ⟨fun hz => takeRequest_refused htake (by rw [ownClearLoopFlags, hz]), fun z hz => ?_⟩⟩
  · intro request htake
    refine ⟨fun h => takeRequest_refused htake (ownSetLoop_badParam h), fun z p m hz hp hm => ?_⟩
    refine (setLoop_judged htake hz hp hm).trans ?_
    simp only [LoopSettings.bytes, policyOf_byte hp, captureOf_byte hm]
    rfl
  · refine (loopReturn_judged htake hz).trans ?_
    rw [State.raiseIf_onRequest_ready]
    rfl
  · refine takeRequest_accepted htake ?_
    rw [ownClearLoopFlags, hz]
    rfl

end Sys2Proof.Machine
end

section
/-! The law of the bank and of start-up (R46, R93, R99, R144, R145, R155, R156, R159, R188, R190): what it says of the part, and
which updates leave it standing. A frame is such an update: it leaves what is recorded of the bank, and a release pulse only in
a zone that stays DISCHARGED. -/

namespace Sys2Proof.Machine

open Host

/-! ### The law -/

/-- What is recorded of the bank brings the live bank back, and the committed zone is DISCHARGED; a part in start-up is as
start-up rebuilt it. -/
structure State.VaultLaw (s : State) : Prop where
  record : s.started = true → s.bankAfterStart = s.bank.afterReset
  pending : s.started = true → s.ret.pendingBank.isSome = true → s.storeBusy = true
  pulse : ∀ z, s.pulseZone = some z → s.fire z = .discharged
  start : s.startLaw

theorem State.Inv.vaultLaw {s : State} (h : s.Inv) : s.VaultLaw :=
  { record := fun hs => (h.bank.1 hs).1
    pending := fun hs => (h.bank.1 hs).2
    pulse := fun z => h.bank.2 z z.mem_all
    start := h.start }

theorem State.VaultLaw.bankLaw {s : State} (h : s.VaultLaw) : s.bankLaw :=
  ⟨fun hs => ⟨h.record hs, h.pending hs⟩, fun z _ => h.pulse z⟩

/-- A running part under the law. -/
structure State.VaultInService (s : State) : Prop extends State.VaultLaw s where
  running : s.phase = .running

theorem State.started_of_running {s : State} (h : s.phase = .running) : s.started = true := by simp [State.started, h]

/-- Start-up is over in a running part, and not begun in one that has stopped (R190). -/
theorem State.startLaw_of_phase {s : State} (h : s.startingUp = false) : s.startLaw := fun hs => by rw [h] at hs; cases hs

theorem State.startingUp_of_running {s : State} (h : s.phase = .running) : s.startingUp = false := by simp [State.startingUp, h]

theorem State.pulseZone_iff (s : State) (z : Zone) : s.pulseZone = some z ↔ ∃ left, s.bank = .committed z left := by
  unfold State.pulseZone
  cases s.bank <;> simp

/-- Start-up reads no COMMITTED bank (R155, R188). -/
theorem Bank.ofRecord_afterReset (b : Option BankRecord) : (Bank.ofRecord b).afterReset = Bank.ofRecord b := by
  rcases b with _ | _ | _ | _ <;> rfl

theorem Bank.ofRecord_ne_committed (b : Option BankRecord) (z : Zone) (left : Nat) : Bank.ofRecord b ≠ .committed z left := by
  rcases b with _ | _ | _ | _ <;> nofun

/-! ### Frames of the law -/

/-- What the law of the bank reads of the part. -/
structure Vault where
  phase : Phase
  pending : Option BankRecord
  record : Option BankRecord
  writing : Option Tunables
  bank : Bank
  zones : PerZone ZoneState

/-- The part as the law of the bank reads it. -/
def State.vault (s : State) : Vault :=
  { phase := s.phase, pending := s.ret.pendingBank, record := s.store.bank, writing := s.store.writing, bank := s.bank
    zones := s.zones }

/-- The second state is as the first to the bank: a start-up would read the same bank from it, a pending bank write waits
where one waited, and a zone under a release pulse was under it before and stays DISCHARGED. -/
structure State.BankFrame (s t : State) : Prop where
  phase : t.phase = s.phase
  record : t.bankAfterStart = s.bankAfterStart
  pending : t.ret.pendingBank.isSome = true → s.ret.pendingBank.isSome = true ∧ (s.storeBusy = true → t.storeBusy = true)
  bank : t.bank.afterReset = s.bank.afterReset
  pulse : ∀ z, t.pulseZone = some z → s.pulseZone = some z ∧ (s.fire z = .discharged → t.fire z = .discharged)

namespace State.BankFrame

protected theorem refl (s : State) : s.BankFrame s := ⟨rfl, rfl, fun h => ⟨h, id⟩, rfl, fun _ h => ⟨h, id⟩⟩

protected theorem trans {s t u : State} (h : s.BankFrame t) (h' : t.BankFrame u) : s.BankFrame u :=
  { phase := h'.phase.trans h.phase
    record := h'.record.trans h.record
    pending := fun hu => let ⟨ht, busy⟩ := h'.pending hu; let ⟨hs, busy'⟩ := h.pending ht; ⟨hs, busy ∘ busy'⟩
    bank := h'.bank.trans h.bank
    pulse := fun z hu => let ⟨ht, fire⟩ := h'.pulse z hu; let ⟨hs, fire'⟩ := h.pulse z ht; ⟨hs, fire ∘ fire'⟩ }

theorem of_eq {s t : State} (h : t.vault = s.vault) : s.BankFrame t := by
  obtain ⟨phase, pending, record, writing, bank, zones⟩ := Vault.mk.inj h
  exact
    { phase := phase
      record := by simp only [State.bankAfterStart, State.bankRecordAtStart_eq, pending, record]
      pending := fun ht => ⟨pending ▸ ht, fun hb => by rw [State.storeBusy, writing]; exact hb⟩
      bank := by rw [bank]
      pulse := fun z hz => ⟨by rwa [State.pulseZone, bank] at hz, fun hf => (State.fire_congr zones z).trans hf⟩ }

/-- One zone's live state is replaced, and a zone that is DISCHARGED under a pulse stays so. -/
theorem setZone_of {s : State} {z : Zone} {v : ZoneState}
    (h : s.pulseZone = some z → s.fire z = .discharged → v.fire = .discharged) : s.BankFrame (s.setZone z v) :=
  { phase := rfl, record := rfl, pending := fun ht => ⟨ht, id⟩, bank := rfl
    pulse := fun w hw => ⟨hw, fun hf => by
      rw [State.setZone_fire]
      split
      · next e => subst e; exact h hw hf
      · exact hf⟩ }

/-- One zone's live state is replaced with its fire state as it was. -/
theorem setZone (s : State) (z : Zone) {v : ZoneState} (h : v.fire = s.fire z) : s.BankFrame (s.setZone z v) :=
  setZone_of fun _ hf => h.trans hf

/-- A zone that is not DISCHARGED takes another fire state. -/
theorem setFire {s : State} {z : Zone} (h : s.fire z ≠ .discharged) (f : FireState) : s.BankFrame (s.setFire z f) :=
  setZone_of fun _ hf => absurd hf h

theorem setMode (s : State) (z : Zone) (m : ZoneMode) : s.BankFrame (s.setMode z m) := setZone s z rfl

theorem setLoop (s : State) (z : Zone) (l : Loop) : s.BankFrame (s.setLoop z l) := setZone s z rfl

theorem raise {s t : State} (h : s.BankFrame t) (f : EventFlag) : s.BankFrame (t.raise f) := h.trans (of_eq rfl)

theorem raiseIf {s t : State} (h : s.BankFrame t) (c : Bool) (f : EventFlag) : s.BankFrame (t.raiseIf c f) :=
  h.trans (by cases c <;> exact of_eq rfl)

theorem setRecords (s : State) (rs : List Record) : s.BankFrame (s.setRecords rs) := of_eq rfl

theorem setCourier (s : State) (e : Fin 16) (c : Option Courier) : s.BankFrame (s.setCourier e c) := of_eq rfl

/-- New settings of a zone, and its live state replaced with its fire state as it was. -/
theorem setSettings_setZone (s : State) (z : Zone) (c : ZoneSettings) {v : ZoneState} (h : v.fire = s.fire z) :
    s.BankFrame ((s.setSettings z c).setZone z v) :=
  (of_eq rfl : s.BankFrame (s.setSettings z c)).trans (setZone _ z h)

theorem discardFrame (s : State) (k : LinkId) : s.BankFrame (s.discardFrame k) := of_eq (by simp [State.vault])

theorem answered (s : State) (k : LinkId) (code : Byte) (x : Status) (results : List Byte) :
    s.BankFrame (s.answered k code x results) := of_eq (by simp [State.vault])

/-- What a link does writes the link and discards its frames. -/
theorem linkUpdates (s : State) (k : LinkId) : LinkUpdatesKeep k s.BankFrame :=
  ⟨fun _ _ h => h.trans (of_eq (by simp [State.vault])), fun t h => h.trans (discardFrame t k)⟩

end State.BankFrame

/-- A frame of a running part keeps the law. -/
theorem State.VaultInService.frame {s t : State} (hs : s.VaultInService) (h : s.BankFrame t) : t.VaultInService := by
  have running : t.phase = .running := h.phase.trans hs.running
  have started := State.started_of_running hs.running
  exact
    { running := running
      record := fun _ => (h.record.trans (hs.record started)).trans h.bank.symm
      pending := fun _ ht => let ⟨hp, busy⟩ := h.pending ht; busy (hs.pending started hp)
      pulse := fun z hz => let ⟨hp, fire⟩ := h.pulse z hz; fire (hs.pulse z hp)
      start := State.startLaw_of_phase (State.startingUp_of_running running) }

/-- An update that touches neither the bank nor what start-up has rebuilt keeps the law in every phase. -/
theorem State.VaultLaw.of_eq {s t : State} (hs : s.VaultLaw) (hv : t.vault = s.vault) (hl : t.live = s.live)
    (hm : t.manifest = s.manifest) (hh : t.hatch = s.hatch) : t.VaultLaw := by
  have frame := State.BankFrame.of_eq hv
  have started : t.started = s.started := by simp only [State.started, frame.phase]
  have starting : t.startingUp = s.startingUp := by simp only [State.startingUp, frame.phase]
  have zones : t.zones = s.zones := congrArg Vault.zones hv
  exact
    { record := fun h => (frame.record.trans (hs.record (started ▸ h))).trans frame.bank.symm
      pending := fun h ht => let ⟨hp, busy⟩ := frame.pending ht; busy (hs.pending (started ▸ h) hp)
      pulse := fun z hz => let ⟨hp, fire⟩ := frame.pulse z hz; fire (hs.pulse z hp)
      start := fun h => by
        simp only [State.settings, zones, hl, hm, hh]
        exact hs.start (starting ▸ h) }

end Sys2Proof.Machine
end

section
/-! The commands that frame the bank: the requests of the custody table, the manifest, the hatch, the couriers, the zones and
the settings, the knocks and samples, and the ticks. None writes a bank state, and a zone under a release pulse stays
DISCHARGED. -/

namespace Sys2Proof.Machine

open Host

namespace State.BankFrame

/-! ### The custody table (R8 to R18, R33) -/

theorem ownEnroll (label : Label) (cls : Byte) (slot : BitVec 16) (s : State) :
    s.BankFrame (ownEnroll label cls slot s).state := by
  unfold Machine.ownEnroll; repeat' split
  all_goals exact of_eq rfl

theorem ownLookup (label : Label) (s : State) : s.BankFrame (ownLookup label s).state :=
  withRecord_keeps (.refl s) fun _ _ => .refl s

theorem ownSlotQuery (slot : BitVec 16) (s : State) : s.BankFrame (ownSlotQuery slot s).state := by
  unfold Machine.ownSlotQuery; repeat' split
  all_goals exact .refl s

theorem ownNextLabel (label : Label) (s : State) : s.BankFrame (ownNextLabel label s).state := by
  unfold Machine.ownNextLabel; repeat' split
  all_goals exact .refl s

theorem ownPlace (label : Label) (slot : BitVec 16) (s : State) : s.BankFrame (ownPlace label slot s).state := by
  unfold Machine.ownPlace; split
  · exact .refl s
  · refine withRecord_keeps (.refl s) fun r _ => ?_
    repeat' split
    all_goals exact of_eq rfl

theorem ownRelocate (label : Label) (slot : BitVec 16) (s : State) : s.BankFrame (ownRelocate label slot s).state := by
  unfold Machine.ownRelocate; split
  · exact .refl s
  · refine withRecord_keeps (.refl s) fun r _ => ?_
    repeat' split
    all_goals exact of_eq rfl

theorem ownUnbind (label : Label) (s : State) : s.BankFrame (ownUnbind label s).state :=
  withRecord_keeps (.refl s) fun r _ => by split <;> exact of_eq rfl

theorem ownRetire (label : Label) (s : State) : s.BankFrame (ownRetire label s).state :=
  withRecord_keeps (.refl s) fun r _ => by split <;> exact of_eq rfl

theorem ownClearMark (label : Label) (mark : Byte) (s : State) : s.BankFrame (ownClearMark label mark s).state := by
  unfold Machine.ownClearMark; split
  · exact .refl s
  · exact withRecord_keeps (.refl s) fun r _ => by split <;> exact of_eq rfl

theorem ownSetClass (label : Label) (cls : Byte) (s : State) : s.BankFrame (ownSetClass label cls s).state := by
  unfold Machine.ownSetClass; split
  · exact .refl s
  · exact withRecord_keeps (.refl s) fun _ _ => of_eq rfl

theorem ownExtendDue (label : Label) (hours : BitVec 16) (s : State) : s.BankFrame (ownExtendDue label hours s).state := by
  unfold Machine.ownExtendDue; split
  · exact .refl s
  · refine withRecord_keeps (.refl s) fun r _ => ?_
    repeat' split
    all_goals exact of_eq rfl

theorem ownSetBoundary (boundary value : Byte) (s : State) : s.BankFrame (ownSetBoundary boundary value s).state := by
  unfold Machine.ownSetBoundary; dsimp only; repeat' split
  all_goals exact of_eq rfl

/-! ### The manifest at the facility (R73, R76 to R79, R87, R89) -/

theorem ownOpenManifest (direction courier : Byte) (consignment due : BitVec 16) (s : State) :
    s.BankFrame (ownOpenManifest direction courier consignment due s).state := by
  unfold Machine.ownOpenManifest; repeat' split
  all_goals exact of_eq rfl

theorem ownAddItem (label : Label) (s : State) : s.BankFrame (ownAddItem label s).state := by
  unfold Machine.ownAddItem; repeat' split
  all_goals exact of_eq rfl

theorem ownDropItem (label : Label) (s : State) : s.BankFrame (ownDropItem label s).state := by
  unfold Machine.ownDropItem; repeat' split
  all_goals exact of_eq rfl

theorem ownOfferManifest (s : State) : s.BankFrame (ownOfferManifest s).state := by
  unfold Machine.ownOfferManifest; repeat' split
  all_goals exact of_eq rfl

theorem closeWith (s : State) (m : Manifest) (cause : Cause) : s.BankFrame (s.closeWith m cause) := of_eq rfl

theorem ownCancelManifest (s : State) : s.BankFrame (ownCancelManifest s).state := by
  unfold Machine.ownCancelManifest; repeat' split
  · exact .refl s
  · exact closeWith s _ _
  · exact .refl s

theorem ownReadManifest (s : State) : s.BankFrame (ownReadManifest s).state := by
  unfold Machine.ownReadManifest; split <;> exact .refl s

theorem ownReleaseManifest (s : State) : s.BankFrame (ownReleaseManifest s).state := by
  unfold Machine.ownReleaseManifest; repeat' split
  all_goals exact of_eq rfl

/-! ### Couriers and the hatch (R49 to R59, R80 to R86, R90) -/

theorem ownEnrolCourier (entry : Byte) (badge : BitVec 24) (code : AccessCode) (s : State) :
    s.BankFrame (ownEnrolCourier entry badge code s).state := by
  unfold Machine.ownEnrolCourier; repeat' split
  all_goals exact of_eq rfl

theorem ownRevokeCourier (entry : Byte) (s : State) : s.BankFrame (ownRevokeCourier entry s).state := by
  unfold Machine.ownRevokeCourier; repeat' split
  all_goals exact of_eq rfl

theorem ownUnlockCourier (entry : Byte) (s : State) : s.BankFrame (ownUnlockCourier entry s).state := by
  unfold Machine.ownUnlockCourier; repeat' split
  all_goals exact of_eq rfl

theorem ownReadCourier (entry : Byte) (s : State) : s.BankFrame (ownReadCourier entry s).state := by
  unfold Machine.ownReadCourier; split <;> exact .refl s

/-- An identification writes its courier's entry, the link and the manifest at most (R55, R56). -/
theorem ownIdentify (badge : BitVec 24) (code : AccessCode) (s : State) : s.BankFrame (ownIdentify badge code s).state := by
  unfold Machine.ownIdentify
  refine .trans (t := s.endLapse) (by rw [s.endLapse_eq]; exact of_eq rfl) ?_
  generalize s.endLapse = t
  dsimp only
  repeat' split
  · exact .refl t
  · exact .refl t
  · exact .refl t
  · exact .refl t
  · exact .refl t
  · exact (setCourier t _ _).raiseIf _ _
  · exact setCourier t _ _
  · exact (setCourier t _ _).trans (of_eq rfl)

theorem ownDeclare (consignment : BitVec 16) (caseT caseH : Option (BitVec 16)) (s : State) :
    s.BankFrame (ownDeclare consignment caseT caseH s).state := by
  refine whenIdentified_keeps (.refl s) fun e => ?_
  repeat' split
  all_goals exact of_eq rfl

theorem ownDeposit (label : Label) (s : State) : s.BankFrame (ownDeposit label s).state := by
  refine whenIdentified_keeps (.refl s) fun e => ?_
  repeat' split
  · exact .refl s
  · exact .refl s
  · exact .refl s
  · exact .refl s
  · exact .refl s
  · exact raiseIf (of_eq (by rfl)) _ _

theorem ownChoose (label : Label) (x : ItemState) (s : State) : s.BankFrame (ownChoose label x s).state := by
  refine whenIdentified_keeps (.refl s) fun e => ?_
  repeat' split
  all_goals exact of_eq rfl

theorem ownView (s : State) : s.BankFrame (ownView s).state := by
  refine whenIdentified_keeps (.refl s) fun e => ?_
  split <;> exact of_eq rfl

theorem ownFinish (s : State) : s.BankFrame (ownFinish s).state := by
  refine whenIdentified_keeps (.refl s) fun e => ?_
  split
  · exact .refl s
  · exact closeWith s _ _

theorem ownLeave (s : State) : s.BankFrame (ownLeave s).state := by
  unfold Machine.ownLeave; repeat' split
  all_goals exact of_eq rfl

/-! ### Zones, climate and loops (R41, R46, R107, R109, R110, R119, R136, R139, R140) -/

theorem changeMode (s : State) (z : Zone) (m : ZoneMode) : s.BankFrame (s.changeMode z m) := by
  unfold State.changeMode; split
  · exact .refl s
  · exact setZone s z (by rfl)

theorem ownSetZoneMode (zone mode : Byte) (s : State) : s.BankFrame (ownSetZoneMode zone mode s).state := by
  unfold Machine.ownSetZoneMode; repeat' split
  · exact .refl s
  · exact changeMode s _ _
  · exact .refl s

theorem ownReadZone (zone : Byte) (s : State) : s.BankFrame (ownReadZone zone s).state := by
  unfold Machine.ownReadZone; split <;> exact .refl s

theorem ownSetStartMode (zone mode : Byte) (s : State) : s.BankFrame (ownSetStartMode zone mode s).state := by
  unfold Machine.ownSetStartMode; repeat' split
  all_goals exact of_eq rfl

theorem ownResetDose (zone : Byte) (s : State) : s.BankFrame (ownResetDose zone s).state := by
  unfold Machine.ownResetDose; repeat' split
  all_goals exact of_eq rfl

theorem ownSetClimate (zone : Byte) (c : ClimateSettings) (s : State) : s.BankFrame (ownSetClimate zone c s).state := by
  unfold Machine.ownSetClimate; repeat' split
  · exact .refl s
  · exact .refl s
  · exact .refl s
  · exact .refl s
  · exact setSettings_setZone s _ _ (by rfl)

theorem ownSetTrim (zone trimT trimH : Byte) (s : State) : s.BankFrame (ownSetTrim zone trimT trimH s).state := by
  unfold Machine.ownSetTrim; repeat' split
  · exact .refl s
  · exact .refl s
  · exact .refl s
  · exact setSettings_setZone s _ _ (by rfl)

theorem ownSetConditioning (kT kH base : Byte) (s : State) : s.BankFrame (ownSetConditioning kT kH base s).state := by
  unfold Machine.ownSetConditioning; split <;> exact of_eq rfl

theorem ownSetLoop (loop : Byte) (openMax normalMax alarmMax : BitVec 16) (policy capture : Byte) (s : State) :
    s.BankFrame (ownSetLoop loop openMax normalMax alarmMax policy capture s).state := by
  unfold Machine.ownSetLoop; repeat' split
  · exact .refl s
  · exact .refl s
  · exact .refl s
  · exact .refl s
  · exact setSettings_setZone s _ _ (by rfl)
  · exact .refl s

theorem ownLoopReturn (loop : Byte) (s : State) : s.BankFrame (ownLoopReturn loop s).state := by
  unfold Machine.ownLoopReturn; dsimp only; repeat' split
  · exact .refl s
  · exact .refl s
  · exact (setLoop s _ _).raiseIf _ _

theorem ownClearLoopFlags (loop : Byte) (o h a : Bool) (s : State) : s.BankFrame (ownClearLoopFlags loop o h a s).state := by
  unfold Machine.ownClearLoopFlags; split
  · exact .refl s
  · exact setLoop s _ _

/-! ### Events, lines and settings (R22, R75, R164, R165, R180 to R185, R187) -/

theorem ownSetRelease (scope b0 b1 b2 b3 : Byte) (s : State) : s.BankFrame (ownSetRelease scope b0 b1 b2 b3 s).state := by
  unfold Machine.ownSetRelease; repeat' split
  all_goals exact of_eq rfl

theorem ownSetEventEnable (enables : BitVec 24) (s : State) : s.BankFrame (ownSetEventEnable enables s).state := by
  unfold Machine.ownSetEventEnable; split <;> exact of_eq rfl

theorem overdueCheck (s : State) : s.BankFrame s.overdueCheck := (setRecords s _).raiseIf _ _

theorem ownSetClock (count : BitVec 32) (s : State) : s.BankFrame (ownSetClock count s).state :=
  .trans (t := { s with ret := { s.ret with clock := count.toNat, clockValid := true }, secondLeft := 1000 }) (of_eq rfl)
    (overdueCheck _)

theorem ownSetLine (line : Byte) (level : Bool) (s : State) : s.BankFrame (ownSetLine line level s).state := by
  unfold Machine.ownSetLine; repeat' split
  all_goals exact of_eq rfl

theorem ownSetExpect (levels : BitVec 16) (s : State) : s.BankFrame (ownSetExpect levels s).state := by
  unfold Machine.ownSetExpect; split
  · exact .refl s
  · exact raiseIf (of_eq (by rfl)) _ _

theorem followDoor (s t : State) : t.BankFrame (followDoor s t) := by rw [followDoor_eq]; exact of_eq rfl

theorem setInputFunction (s : State) (n : Fin 12) (f : InputFunction) : s.BankFrame (s.setInputFunction n f) :=
  ((of_eq (by rfl)).trans (followDoor s { s with live := { s.live with inputs := s.live.inputs.set n f } })).raiseIf _ _

theorem ownSetLineFunction (direction line function zone : Byte) (s : State) :
    s.BankFrame (ownSetLineFunction direction line function zone s).state := by
  unfold Machine.ownSetLineFunction
  extract_lets change
  have changes (f : State → State) (hf : change = some f) : s.BankFrame (f s) := by
    unfold change at hf
    split at hf
    · obtain ⟨x, -, rfl⟩ := Option.map_eq_some_iff.mp hf; exact setInputFunction s _ x
    · obtain ⟨x, -, rfl⟩ := Option.map_eq_some_iff.mp hf; exact of_eq rfl
    · cases hf
  clear_value change
  repeat' split
  · exact .refl s
  · exact .refl s
  · exact .refl s
  · next f _ _ => exact changes f rfl

theorem ownSetTimers (h r o : BitVec 16) (s : State) : s.BankFrame (ownSetTimers h r o s).state := by
  unfold Machine.ownSetTimers; split <;> exact of_eq rfl

theorem ownSetClassLimit (cls : Byte) (limit : BitVec 16) (s : State) : s.BankFrame (ownSetClassLimit cls limit s).state := by
  unfold Machine.ownSetClassLimit; repeat' split
  all_goals exact of_eq rfl

/-- A store write begins without a bank write of its own; one that is pending waits for it as well (R187, R188). -/
theorem ownStoreSettings (s : State) : s.BankFrame (ownStoreSettings s).state := by
  unfold Machine.ownStoreSettings
  split
  · exact .refl s
  · exact ⟨rfl, rfl, fun h => ⟨h, fun _ => rfl⟩, rfl, fun _ h => ⟨h, id⟩⟩

theorem ownSetLinkRate (link divisor : Byte) (s : State) : s.BankFrame (ownSetLinkRate link divisor s).state := by
  unfold Machine.ownSetLinkRate; repeat' split
  all_goals exact of_eq (by simp [State.vault])

/-! ### The fire sequence (R146 to R154, R157, R159) -/

theorem abandonForFire (s : State) : s.BankFrame s.abandonForFire := by
  unfold State.abandonForFire; repeat' split
  all_goals exact of_eq rfl

theorem secondKnock (s : State) (z : Zone) : s.BankFrame (s.secondKnock z) := by
  unfold State.secondKnock State.enterCountdown
  split
  · next h => exact ((setFire (by simp [h.1]) _).raise _).trans (abandonForFire _)
  · exact .refl s

theorem ownManualRelease (zone : Byte) (s : State) : s.BankFrame (ownManualRelease zone s).state := by
  unfold Machine.ownManualRelease; repeat' split
  · exact .refl s
  · exact .refl s
  · exact secondKnock s _

theorem ownAbortRelease (zone : Byte) (s : State) : s.BankFrame (ownAbortRelease zone s).state := by
  unfold Machine.ownAbortRelease; repeat' split
  · exact .refl s
  · exact .refl s
  · next h => exact setFire (by intro hf; simp [hf, FireState.isCountdown] at h) _

/-- RESET_ALARM refuses the zone whose pulse runs (R159). -/
theorem ownResetAlarm (zone : Byte) (s : State) : s.BankFrame (ownResetAlarm zone s).state := by
  unfold Machine.ownResetAlarm; repeat' split
  · exact .refl s
  · exact .refl s
  · next h => exact setZone_of fun hz hf => by simp [State.resetAlarmRefusal, hf, hz] at h

theorem alarmSample (s : State) (z : Zone) : s.BankFrame (s.alarmSample z) := by
  unfold State.alarmSample
  split
  · next h => exact (setZone_of fun _ hf => by rw [h] at hf; cases hf).raise _
  · next h => exact (setFire (by simp [h]) _).raise _
  · exact .refl s

theorem windowExpiry (s : State) (z : Zone) : s.BankFrame (s.windowExpiry z) := by
  unfold State.windowExpiry
  split
  · next h => exact setFire (by simp [h]) _
  · exact .refl s

/-- The abort input moves countdowns alone (R153). -/
theorem abortChanged (s : State) (asserted : Bool) : s.BankFrame (s.abortChanged asserted) :=
  { phase := rfl, record := rfl, pending := fun h => ⟨h, id⟩, bank := rfl
    pulse := fun z hz => ⟨hz, fun hf => by
      rw [State.abortChanged, State.fire, PerZone.get_tabulate, hf]; rfl⟩ }

/-- The end of a pulse leaves the bank as a reset would have taken it (R155, R157). -/
theorem pulseEnd (s : State) : s.BankFrame s.pulseEnd := by
  unfold State.pulseEnd
  split
  · next h => exact ⟨rfl, rfl, fun h => ⟨h, id⟩, by rw [h]; rfl, nofun⟩
  · exact .refl s

/-! ### Samples (R94 to R104, R111, R127 to R135, R142) -/

theorem account (s : State) (z : Zone) (weight : Nat) : s.BankFrame (s.account z weight) := by
  unfold State.account
  extract_lets c a dose next t
  have ht : s.BankFrame t := of_eq rfl
  split
  · exact (ht.trans (setRecords t _)).raise _
  · exact ht.raiseIf _ _

theorem goodSample (s : State) (z : Zone) (counts : RawCounts) : s.BankFrame (s.goodSample z counts) := by
  unfold State.goodSample
  extract_lets v c reading weight previous x s1 s2
  have h1 : s.BankFrame s1 := setZone s z rfl
  have h2 : s.BankFrame s2 := by
    unfold s2; split
    · exact h1
    · exact h1.trans (account s1 z weight)
  split
  · exact h2.trans (secondKnock s2 z)
  · exact h2

theorem sampleClimate (s : State) (z : Zone) (counts : RawCounts) : s.BankFrame (s.sampleClimate z counts) := by
  unfold State.sampleClimate
  extract_lets v x s1
  have h1 : s.BankFrame s1 := setZone s z rfl
  split
  · exact h1.trans ((setZone s1 z (by rfl)).raiseIf _ _)
  · exact h1.trans (goodSample s1 z counts)

theorem sampleLoop (s : State) (z : Zone) (count : BitVec 12) : s.BankFrame (s.sampleLoop z count) := by
  unfold State.sampleLoop
  extract_lets v c e s1 s2
  have h1 : s.BankFrame s1 := (((setZone s z (by rfl)).raiseIf _ _).raiseIf _ _).raiseIf _ _
  have h2 : s.BankFrame s2 := by
    unfold s2; split
    · exact h1.trans (setMode s1 z _)
    · exact h1
  split
  · exact h2.trans (alarmSample s2 z)
  · exact h2

theorem foldl {f : State → Zone → State} (hf : ∀ (t : State) z, t.BankFrame (f t z)) (zs : List Zone) (s : State) :
    s.BankFrame (zs.foldl f s) := by
  induction zs generalizing s with
  | nil => exact .refl s
  | cons z zs ih => exact (hf s z).trans (ih _)

theorem firstSamples (s : State) (climate : PerZone RawCounts) (loops : PerZone (BitVec 12)) :
    s.BankFrame (s.firstSamples climate loops) :=
  (foldl (fun t z => sampleClimate t z _) _ s).trans (foldl (fun t z => sampleLoop t z _) _ _)

/-! ### The lines, HU's expiries, the ticks and the store (R54, R64, R73, R74, R120, R181, R185, R187, R188) -/

theorem lineChange (s : State) (n : Fin 12) (level : Bool) : s.BankFrame (s.lineChange n level) := by
  unfold State.lineChange
  have changed : s.BankFrame (s.setLevel n level) := of_eq rfl
  split
  · exact .refl s
  · dsimp only
    split
    · exact changed.raiseIf _ _
    · exact (changed.trans (followDoor s _)).raiseIf _ _
    · unfold abortLineChanged
      split
      · exact changed
      · exact changed.trans (abortChanged _ _)
    · split
      · exact changed.trans (secondKnock _ _)
      · exact changed
    · exact changed

theorem handoverExpiry (s : State) : s.BankFrame s.handoverExpiry := by
  unfold State.handoverExpiry; repeat' split
  all_goals exact of_eq rfl

theorem releaseExpiry (s : State) : s.BankFrame s.releaseExpiry := by
  unfold State.releaseExpiry; repeat' split
  all_goals exact of_eq rfl

theorem openLimitReached (s : State) : s.BankFrame s.openLimitReached := by
  unfold State.openLimitReached; repeat' split
  all_goals exact of_eq rfl

theorem minuteTick (s : State) : s.BankFrame s.minuteTick := by
  unfold State.minuteTick; split
  · exact (setRecords s _).raiseIf _ _
  · exact .refl s

/-- The hour tick makes the overdue check while the clock is valid (R21). -/
theorem hourTick (s : State) : s.BankFrame (if s.ret.clockValid then s.overdueCheck else s) := by
  split
  · exact overdueCheck s
  · exact .refl s

/-- A pending bank write is made as the store write completes: a start-up would read what it would have made (R188). -/
theorem storeComplete (s : State) : s.BankFrame s.storeComplete := by
  unfold State.storeComplete
  split
  · exact .refl s
  · refine ⟨rfl, ?_, nofun, rfl, fun _ h => ⟨h, id⟩⟩
    simp only [State.bankAfterStart, State.bankRecordAtStart_eq]
    cases s.ret.pendingBank <;> rfl

/-- A millisecond moves timers alone (R153, R157). -/
theorem pass {s : State} (hp : s.phase = .running) : s.BankFrame s.idle := by
  unfold State.idle
  rw [if_pos hp]
  refine ⟨rfl, rfl, fun h => ⟨h, id⟩, by cases s.bank <;> rfl, fun z hz => ⟨?_, fun hf => ?_⟩⟩
  · unfold State.pulseZone at hz ⊢
    revert hz; cases s.bank <;> exact id
  · show ((PerZone.tabulate fun w => (s.zones.get w).pass).get z).fire = _
    rw [PerZone.get_tabulate, ZoneState.pass, show (s.zones.get z).fire = _ from hf]; rfl

end State.BankFrame

end Sys2Proof.Machine
end

section
/-! Every step keeps the law of the bank and of start-up: the discharge and the reload that write a bank state (R156, R160), the
reset, power and start-up that begin it anew (R188, R190), and then every command, one case a constructor. -/

namespace Sys2Proof.Machine

open Host

/-! ### What is written of the bank (R156, R160, R188) -/

/-- A bank state that is written is the one that a start-up would read: at once, or pending where a store write is in progress;
without one no bank write is pending. -/
theorem State.writeBank_bankAfterStart {s : State} (h : s.ret.pendingBank.isSome = true → s.storeBusy = true) (b : BankRecord) :
    (s.writeBank b).bankAfterStart = Bank.ofRecord (some b) := by
  unfold State.bankAfterStart State.writeBank
  split
  · simp only [State.bankRecordAtStart_eq]; rfl
  · next hb =>
    have free : s.ret.pendingBank = none := by
      cases hp : s.ret.pendingBank with
      | none => rfl
      | some x => exact absurd (h (by rw [hp]; rfl)) hb
    simp only [State.bankRecordAtStart_eq, free]; rfl

theorem State.writeBank_pending {s : State} {b : BankRecord} (h : s.ret.pendingBank.isSome = true → s.storeBusy = true)
    (hp : (s.writeBank b).ret.pendingBank.isSome = true) : (s.writeBank b).storeBusy = true := by
  unfold State.writeBank at hp ⊢
  split
  · next hb => exact hb
  · next hb => rw [if_neg hb] at hp; exact h hp

namespace State.VaultInService

/-- The bank takes a state and its record is written with what a reset would make of it; the zone of a pulse is DISCHARGED. -/
theorem writeBank {s : State} (hs : s.VaultInService) {b : Bank} {r : BankRecord} (hr : Bank.ofRecord (some r) = b.afterReset)
    (hb : ∀ z, State.pulseZone { s with bank := b } = some z → s.fire z = .discharged) :
    (State.writeBank { s with bank := b } r).VaultInService := by
  have waits : s.ret.pendingBank.isSome = true → s.storeBusy = true := hs.pending (State.started_of_running hs.running)
  set t : State := { s with bank := b }
  have plant := State.writeBank_plant t r
  have running : (t.writeBank r).phase = .running := (congrArg Plant.phase plant).trans hs.running
  have zones : (t.writeBank r).zones = s.zones := congrArg Plant.zones plant
  have bank : (t.writeBank r).bank = b := by unfold State.writeBank; split <;> rfl
  exact
    { running := running
      record := fun _ => (State.writeBank_bankAfterStart (s := t) waits r).trans (hr.trans (by rw [bank]))
      pending := fun _ hp => State.writeBank_pending (s := t) waits hp
      pulse := fun z hz => (State.fire_congr zones z).trans (hb z (by rwa [State.pulseZone, bank] at hz))
      start := State.startLaw_of_phase (State.startingUp_of_running running) }

/-- BANK_RELOADED writes READY of a SPENT bank (R160). -/
theorem ownBankReloaded {s : State} (hs : s.VaultInService) : (ownBankReloaded s).state.VaultInService := by
  unfold Machine.ownBankReloaded; repeat' split
  · exact hs
  · exact hs
  · exact hs.writeBank (by rfl) nofun

/-- A discharge writes SPENT of the bank that it commits to the zone it makes DISCHARGED (R156, R157). -/
theorem discharge {s : State} (hs : s.VaultInService) (z : Zone) : (s.discharge z).VaultInService := by
  have fired : (s.setZone z { s.zones.get z with fire := .discharged }).VaultInService :=
    hs.frame (.setZone_of fun _ _ => rfl)
  have written := fired.writeBank (b := .committed z (s.live.release.pulse * 1000)) (r := .spent) rfl fun w hw => by
    obtain rfl : z = w := Option.some.inj hw
    simp
  refine written.frame (t := s.discharge z) (.of_eq ?_)
  unfold State.discharge State.writeBank
  cases hw : s.store.writing <;> simp [State.storeBusy, State.vault, State.setFire, State.agentZone, hw]

theorem countdownExpiry {s : State} (hs : s.VaultInService) (z : Zone) : (s.countdownExpiry z).VaultInService := by
  unfold State.countdownExpiry
  split
  · next hf =>
    split
    · exact hs.discharge z
    · exact hs.frame ((State.BankFrame.setFire (by simp [hf]) _).raise _)
  · exact hs

end State.VaultInService

/-! ### What a command does beside its owner's or its timer's work -/

namespace State.VaultLaw

/-- A request keeps the law when its owner block does: an overrun and a lost frame touch the link alone (R168). -/
theorem request {s t : State} (hs : s.VaultLaw) {k : LinkId} {code : Byte} {c : Instr} {owner : State → Answer}
    (h : takeRequest k code c owner s = .next t) (ho : s.VaultInService → (owner s).state.VaultInService) : t.VaultLaw := by
  by_cases hp : s.phase = .running
  · have served : s.VaultInService := ⟨hs, hp⟩
    rcases takeRequest_cases s k code c owner with ⟨-, he⟩ | he | he <;> cases he.symm.trans h
    · exact ((ho served).frame (.answered ..)).toVaultLaw
    · exact (served.frame (.discardFrame s k)).toVaultLaw
    · exact hs
  · cases (takeRequest_notRunning hp).symm.trans h; exact hs

/-- A request whose owner block frames the bank. -/
theorem request_frame {s t : State} (hs : s.VaultLaw) {k : LinkId} {code : Byte} {c : Instr} {owner : State → Answer}
    (h : takeRequest k code c owner s = .next t) (ho : s.BankFrame (owner s).state) : t.VaultLaw :=
  hs.request h fun hs => hs.frame ho

/-- An event of the running part keeps the law when its effect does. -/
theorem event {s t : State} (hs : s.VaultLaw) {f : State → State} (h : whileRunning f s = .next t)
    (hf : s.VaultInService → (f s).VaultInService) : t.VaultLaw := by
  unfold whileRunning at h
  split at h <;> cases h
  · next hp => exact (hf ⟨hs, hp⟩).toVaultLaw
  · exact hs

/-- An event whose effect frames the bank. -/
theorem event_frame {s t : State} (hs : s.VaultLaw) {f : State → State} (h : whileRunning f s = .next t)
    (hf : s.BankFrame (f s)) : t.VaultLaw := hs.event h fun hs => hs.frame hf

/-- A timer's event whose effect frames the bank. -/
theorem timed_frame {s t : State} (hs : s.VaultLaw) {left : State → Nat} {f : State → State} (h : whenDue left f s = .next t)
    (hf : s.BankFrame (f s)) : t.VaultLaw := hs.event_frame h (by split; exacts [hf, .refl s])

/-! ### Reset, power and start-up (R172, R187 to R190) -/

/-- A part that stops keeps its zones and its bank; start-up has still to read what is recorded of it (R172). -/
theorem stop {s : State} (hs : s.VaultLaw) {x : Phase} (hx : x = .inReset ∨ x = .unpowered) : (s.stop x).VaultLaw := by
  have stopped : (s.stop x).started = false ∧ (s.stop x).startingUp = false := by rcases hx with rfl | rfl <;> exact ⟨rfl, rfl⟩
  obtain ⟨notStarted, notStarting⟩ := stopped
  refine ⟨fun h => ?_, fun h => ?_, ?_, State.startLaw_of_phase notStarting⟩
  · rw [notStarted] at h; cases h
  · rw [notStarted] at h; cases h
  · rw [s.stop_eq]; exact hs.pulse

/-- Start-up makes a pending bank write and begins with the bank that is then recorded, every zone in its loaded start mode and
no handover (R188, R190). -/
theorem startUp (s : State) (lost : Bool) : (s.startUp lost).VaultLaw :=
  { record := fun _ => (Bank.ofRecord_afterReset _).symm
    pending := nofun
    pulse := fun z hz => by
      obtain ⟨left, hb⟩ := (State.pulseZone_iff _ z).mp hz
      exact absurd hb (Bank.ofRecord_ne_committed _ z left)
    start := fun _ => ⟨fun z _ => PerZone.get_tabulate _ z, rfl, rfl⟩ }

/-- As start-up completes the part enters service with the bank that start-up read. -/
theorem enterService {s : State} (hs : s.VaultLaw) {lost : Bool} (hp : s.phase = .starting lost) (pins : BitVec 12) :
    (s.enterService lost pins).VaultInService := by
  have started : s.started = true := by simp [State.started, hp]
  rw [s.enterService_eq]
  exact ⟨⟨fun _ => hs.record started, fun _ => hs.pending started, hs.pulse, nofun⟩, rfl⟩

theorem execResetAssert {s t : State} (hs : s.VaultLaw) (h : execResetAssert s = .next t) : t.VaultLaw := by
  unfold Machine.execResetAssert at h
  split at h <;> cases h
  · exact hs.stop (.inl rfl)
  · exact hs.stop (.inl rfl)
  · exact hs
  · exact hs

theorem execPowerLoss {s t : State} (hs : s.VaultLaw) (h : execPowerLoss s = .next t) : t.VaultLaw := by
  unfold Machine.execPowerLoss at h
  split at h <;> cases h
  · exact hs
  · exact hs.stop (.inr rfl)

theorem execStartUp {s t : State} (hs : s.VaultLaw) (h : execStartUp s = .next t) : t.VaultLaw := by
  unfold Machine.execStartUp at h
  split at h <;> cases h
  · exact .startUp s _
  · exact .startUp s _
  · exact hs
  · exact hs

theorem execStartUpComplete {s t : State} (hs : s.VaultLaw) {pins : BitVec 12} {climate : PerZone RawCounts}
    {loops : PerZone (BitVec 12)} (h : execStartUpComplete pins climate loops s = .next t) : t.VaultLaw := by
  unfold Machine.execStartUpComplete at h
  split at h <;> obtain rfl := Outcome.next.inj h
  · next hp => exact ((hs.enterService hp pins).frame (.firstSamples _ climate loops)).toVaultLaw
  · exact hs
  · exact hs
  · exact hs

theorem execBackupBelowRetention {s t : State} (hs : s.VaultLaw) (h : execBackupBelowRetention s = .next t) : t.VaultLaw := by
  unfold Machine.execBackupBelowRetention at h
  split at h <;> cases h
  · exact hs.of_eq rfl rfl rfl rfl
  · exact hs

/-- The clock's second counts in every phase (R185). -/
theorem clockSecond {s : State} (hs : s.VaultLaw) : s.clockSecond.VaultLaw := by
  unfold State.clockSecond; repeat' split
  all_goals exact hs.of_eq rfl rfl rfl rfl

theorem idle {s : State} (hs : s.VaultLaw) : s.idle.VaultLaw := by
  by_cases hp : s.phase = .running
  · exact (State.VaultInService.frame ⟨hs, hp⟩ (.pass hp)).toVaultLaw
  · rw [State.idle, if_neg hp]; exact hs.of_eq rfl rfl rfl rfl

/-! ### Every command and every step -/

/-- Every command keeps the law. -/
theorem exec {c : Instr} {s t : State} (hs : s.VaultLaw) (h : exec c s = .next t) : t.VaultLaw := by
  have links := State.BankFrame.linkUpdates
  cases c with
  | enroll label cls slot => exact hs.request_frame h (.ownEnroll label cls slot s)
  | lookup label => exact hs.request_frame h (.ownLookup label s)
  | slotQuery slot => exact hs.request_frame h (.ownSlotQuery slot s)
  | nextLabel label => exact hs.request_frame h (.ownNextLabel label s)
  | place label slot => exact hs.request_frame h (.ownPlace label slot s)
  | relocate label slot => exact hs.request_frame h (.ownRelocate label slot s)
  | unbind label => exact hs.request_frame h (.ownUnbind label s)
  | retire label => exact hs.request_frame h (.ownRetire label s)
  | clearMark label mark => exact hs.request_frame h (.ownClearMark label mark s)
  | setClass label cls => exact hs.request_frame h (.ownSetClass label cls s)
  | extendDue label hours => exact hs.request_frame h (.ownExtendDue label hours s)
  | openManifest direction courier consignment due =>
    exact hs.request_frame h (.ownOpenManifest direction courier consignment due s)
  | addItem label => exact hs.request_frame h (.ownAddItem label s)
  | dropItem label => exact hs.request_frame h (.ownDropItem label s)
  | offerManifest => exact hs.request_frame h (.ownOfferManifest s)
  | cancelManifest => exact hs.request_frame h (.ownCancelManifest s)
  | readManifest => exact hs.request_frame h (.ownReadManifest s)
  | releaseManifest => exact hs.request_frame h (.ownReleaseManifest s)
  | enrolCourier entry badge code => exact hs.request_frame h (.ownEnrolCourier entry badge code s)
  | revokeCourier entry => exact hs.request_frame h (.ownRevokeCourier entry s)
  | unlockCourier entry => exact hs.request_frame h (.ownUnlockCourier entry s)
  | readCourier entry => exact hs.request_frame h (.ownReadCourier entry s)
  | setZoneMode zone mode => exact hs.request_frame h (.ownSetZoneMode zone mode s)
  | setBoundary boundary value => exact hs.request_frame h (.ownSetBoundary boundary value s)
  | setClimate => exact hs.request_frame h (.ownSetClimate ..)
  | readZone zone => exact hs.request_frame h (.ownReadZone zone s)
  | resetDose zone => exact hs.request_frame h (.ownResetDose zone s)
  | setTrim zone trimT trimH => exact hs.request_frame h (.ownSetTrim zone trimT trimH s)
  | setStartMode zone mode => exact hs.request_frame h (.ownSetStartMode zone mode s)
  | setConditioning kT kH base => exact hs.request_frame h (.ownSetConditioning kT kH base s)
  | readConditioning => exact hs.request_frame h (.refl s)
  | setLoop => exact hs.request_frame h (.ownSetLoop ..)
  | loopReturn loop => exact hs.request_frame h (.ownLoopReturn loop s)
  | clearLoopFlags loop o x a => exact hs.request_frame h (.ownClearLoopFlags loop o x a s)
  | abortRelease zone => exact hs.request_frame h (.ownAbortRelease zone s)
  | manualRelease zone => exact hs.request_frame h (.ownManualRelease zone s)
  | resetAlarm zone => exact hs.request_frame h (.ownResetAlarm zone s)
  | bankReloaded => exact hs.request h fun hs => hs.ownBankReloaded
  | setRelease scope b0 b1 b2 b3 => exact hs.request_frame h (.ownSetRelease scope b0 b1 b2 b3 s)
  | status => exact hs.request_frame h (.refl s)
  | clearEvents choice => exact hs.request_frame h (.of_eq rfl)
  | setEventEnable enables => exact hs.request_frame h (.ownSetEventEnable enables s)
  | setClock count => exact hs.request_frame h (.ownSetClock count s)
  | readClock => exact hs.request_frame h (.refl s)
  | setLine line level => exact hs.request_frame h (.ownSetLine line level s)
  | setExpect levels => exact hs.request_frame h (.ownSetExpect levels s)
  | setLineFunction direction line function zone =>
    exact hs.request_frame h (.ownSetLineFunction direction line function zone s)
  | setTimers handover release openLimit => exact hs.request_frame h (.ownSetTimers handover release openLimit s)
  | setClassLimit cls limit => exact hs.request_frame h (.ownSetClassLimit cls limit s)
  | storeSettings => exact hs.request_frame h (.ownStoreSettings s)
  | setLinkRate link divisor => exact hs.request_frame h (.ownSetLinkRate link divisor s)
  | identifyPart => exact hs.request_frame h (.refl s)
  | identify badge code => exact hs.request_frame h (.ownIdentify badge code s)
  | declare consignment caseT caseH => exact hs.request_frame h (.ownDeclare consignment caseT caseH s)
  | deposit label => exact hs.request_frame h (.ownDeposit label s)
  | accept label => exact hs.request_frame h (.ownChoose label .accepted s)
  | decline label => exact hs.request_frame h (.ownChoose label .declined s)
  | view => exact hs.request_frame h (.ownView s)
  | finish => exact hs.request_frame h (.ownFinish s)
  | leave => exact hs.request_frame h (.ownLeave s)
  | hatchStatus => exact hs.request_frame h (.refl s)
  | unknownRequest k code ps =>
    exact hs.event_frame (f := fun s => if (s.link k).receiving then s else s.frameCompletes k code ps) h
      (by split; exacts [.refl s, (links s k).frameCompletes (.refl s) code ps])
  | frameDiscard k =>
    exact hs.event_frame (f := fun s => if (s.link k).receiving then s.discardFrame k else s) h ((links s k).discardIf (.refl s) _)
  | frameGapTimeout k =>
    exact hs.timed_frame (left := fun s => (s.link k).gapLeft)
      (f := fun s => if (s.link k).receiving then s.discardFrame k else s) h ((links s k).discardIf (.refl s) _)
  | responseSent k => exact hs.event_frame (f := fun s => s.responseEnds k) h ((links s k).responseEnds (.refl s))
  | handoverTimerExpiry => exact hs.event_frame h (.handoverExpiry s)
  | releaseTimerExpiry => exact hs.event_frame h (.releaseExpiry s)
  | hatchOpenLimitReached => exact hs.event_frame h (.openLimitReached s)
  | verificationWindowExpiry z => exact hs.event_frame (f := fun s => s.windowExpiry z) h (.windowExpiry s z)
  | countdownExpiry z => exact hs.event (f := fun s => s.countdownExpiry z) h fun hs => hs.countdownExpiry z
  | releasePulseEnd => exact hs.event_frame h (.pulseEnd s)
  | climateSample z counts =>
    exact hs.timed_frame (left := fun s => (s.zones.get z).sampleLeft) (f := fun s => s.sampleClimate z counts) h
      (.sampleClimate s z counts)
  | loopSample z count =>
    exact hs.timed_frame (left := fun s => (s.zones.get z).loopLeft) (f := fun s => s.sampleLoop z count) h
      (.sampleLoop s z count)
  | elapsedMinuteTick =>
    exact hs.timed_frame (f := fun s => { s.minuteTick with minuteLeft := 60000 }) h
      ((State.BankFrame.minuteTick s).trans (.of_eq rfl))
  | elapsedHourTick =>
    exact hs.timed_frame (f := fun s => { (if s.ret.clockValid then s.overdueCheck else s) with hourLeft := 3600000 }) h
      ((State.BankFrame.hourTick s).trans (.of_eq rfl))
  | siteClockSecond => cases h; exact hs.clockSecond
  | storeWriteComplete => exact hs.event_frame h (.storeComplete s)
  | inputLineChange n level => exact hs.event_frame (f := fun s => s.lineChange n level) h (.lineChange s n level)
  | resetAssert => exact hs.execResetAssert h
  | powerLoss => exact hs.execPowerLoss h
  | startUp => exact hs.execStartUp h
  | startUpComplete pins climate loops => exact hs.execStartUpComplete h
  | backupBelowRetention => exact hs.execBackupBelowRetention h
  | characterReceived k char ok =>
    exact hs.event_frame (f := fun s => s.character k char ok) h ((links s k).character (.refl s) char ok)

end State.VaultLaw

/-- Every step keeps the law: a command of the queue does, and the idle millisecond moves timers alone. -/
theorem State.VaultLaw.step {s t : State} (hs : s.VaultLaw) (h : step s = .next t) : t.VaultLaw := by
  unfold Machine.step at h
  split at h
  · cases h; exact hs.idle
  · next rest _ => exact (hs.of_eq (t := { s with pending := rest }) rfl rfl rfl rfl).exec h

/-- Settles O60, from the law of the bank and of start-up that every step keeps. -/
theorem stepKeepsBankAndStartUp : Obligations.StepKeepsBankAndStartUp := fun _ _ hi h =>
  have kept := hi.vaultLaw.step h
  ⟨kept.bankLaw, kept.start⟩

end Sys2Proof.Machine
end

section
/-! The hatch lock, the output functions and the pins (R60, R157, R162, R183). -/

namespace Sys2Proof.Machine

open Host

/-! ### The hatch lock (R60) -/

theorem FireState.isCountdown_iff (f : FireState) : f.isCountdown = true ↔ ∃ left held, f = .countdown left held := by
  cases f <;> simp [FireState.isCountdown]

theorem State.identified_isSome_iff (s : State) : s.identified.isSome = true ↔ ∃ e, s.hatch = .identified e := by
  simp only [Option.isSome_iff_exists, State.identified_eq_some]

theorem State.manifestActive_iff (s : State) : s.manifestActive = true ↔ ∃ m ∈ s.manifest, m.stage = .active := by
  unfold State.manifestActive
  cases s.manifest <;> simp

theorem State.anyCountdownOrDischarged_eq_false (s : State) :
    s.anyCountdownOrDischarged = false ↔ ∀ z left held, s.fire z ≠ .countdown left held ∧ s.fire z ≠ .discharged := by
  rw [Bool.eq_false_iff, Ne, State.anyCountdownOrDischarged_iff, not_exists]
  refine forall_congr' fun z => ?_
  rw [FireState.forbidsHandover_iff]
  constructor
  · intro h left held
    exact ⟨fun hf => h (.inl ⟨left, held, hf⟩), fun hf => h (.inr hf)⟩
  · rintro h (⟨left, held, hf⟩ | hf)
    · exact (h left held).1 hf
    · exact (h 0 false).2 hf

theorem State.hatchServable_iff (s : State) : s.hatchServable = true ↔
    (∀ z left held, s.fire z ≠ .countdown left held ∧ s.fire z ≠ .discharged) ∧
    (s.fire .zc = .quiet ∨ ∃ left, s.fire .zc = .prealarm left) ∧ s.mode .zc = .online := by
  simp only [State.hatchServable, Bool.and_eq_true, Bool.not_eq_true', decide_eq_true_eq, FireState.isOpen_iff,
    State.anyCountdownOrDischarged_eq_false, and_assoc]

/-- The lock opens under every condition of R60. -/
theorem State.lockAsserted_eq_false (s : State) : s.lockAsserted = false ↔
    (∃ e, s.hatch = .identified e) ∧ (∃ m ∈ s.manifest, m.stage = .active) ∧
    (∀ z left held, s.fire z ≠ .countdown left held ∧ s.fire z ≠ .discharged) ∧
    (s.fire .zc = .quiet ∨ ∃ left, s.fire .zc = .prealarm left) ∧ s.mode .zc = .online := by
  simp only [State.lockAsserted, Bool.not_eq_false', Bool.and_eq_true, State.identified_isSome_iff, State.manifestActive_iff,
    State.hatchServable_iff, and_assoc]

/-! ### The output functions (R157, R162, R183) -/

theorem State.sounder_iff (s : State) : s.sounder = true ↔ ∃ z, s.fire z ≠ .quiet ∧ ∀ left, s.fire z ≠ .prealarm left := by
  simp only [State.sounder, List.any_eq_true, Zone.mem_all, true_and, Bool.not_eq_true', Bool.eq_false_iff, Ne,
    FireState.isOpen_iff, not_or, not_exists]

theorem State.predischarge_iff (s : State) : s.predischarge = true ↔ ∃ z left held, s.fire z = .countdown left held := by
  simp only [State.predischarge, List.any_eq_true, Zone.mem_all, true_and, FireState.isCountdown_iff]

theorem State.pulseZone_isSome_iff (s : State) : s.pulseZone.isSome = true ↔ ∃ z left, s.bank = .committed z left := by
  simp only [Option.isSome_iff_exists, State.pulseZone_iff]

/-- A line is asserted by its function, or for NONE by its host level (R183). -/
theorem State.outputAsserted_iff (s : State) (n : Fin 12) : s.outputAsserted n = true ↔
    match s.live.outputs[n] with
    | .none => s.live.hostLevels.getLsbD n.val = true
    | .hatchLock => s.lockAsserted = true
    | .sounder => ∃ z, s.fire z ≠ .quiet ∧ ∀ left, s.fire z ≠ .prealarm left
    | .predischarge => ∃ z left held, s.fire z = .countdown left held
    | .release z => ∃ left, s.bank = .committed z left
    | .bankRelease => ∃ z left, s.bank = .committed z left := by
  unfold State.outputAsserted State.outputFunction
  cases s.live.outputs[n] with
  | none => rfl
  | hatchLock => rfl
  | sounder => exact s.sounder_iff
  | predischarge => exact s.predischarge_iff
  | release z => exact decide_eq_true_iff.trans (s.pulseZone_iff z)
  | bankRelease => exact s.pulseZone_isSome_iff

/-- Settles O26, from the lock's conditions and each function's. -/
theorem lockAndOutputsFollowTheState : Obligations.LockAndOutputsFollowTheState := by
  refine ⟨State.lockAsserted_eq_false, State.outputAsserted_iff, fun s n hrun => ?_⟩
  simp only [State.outputHigh, hrun, decide_true, Bool.true_and]
  rfl

end Sys2Proof.Machine
end

section
/-! The change of an input line's debounced level, by the line's function (R150, R153, R155, R181, R182). -/

namespace Sys2Proof.Machine

open Host

/-- A line that changes its level in a running part is taken by the block that uses its function (R181). -/
theorem exec_inputLineChange {s : State} {n : Fin 12} {level : Bool} (hrun : s.phase = .running)
    (hl : s.levels.getLsbD n.val ≠ level) : exec (.inputLineChange n level) s = .next
      (match s.live.inputs[n] with
        | .none => (s.setLevel n level).raiseIf (entersMismatch s (s.setLevel n level)) .inputChange
        | .hatchDoor => doorChanged s (s.setLevel n level)
        | .abort => abortLineChanged s (s.setLevel n level)
        | .manualRelease z => if level then (s.setLevel n level).secondKnock z else s.setLevel n level
        | .bankLow => s.setLevel n level) :=
  (whileRunning_running (f := fun s => s.lineChange n level) hrun).trans (congrArg _ (if_neg hl))

/-! ### A NONE line (R182) -/

/-- A NONE line that changes its level comes into mismatch when the new level is not the expected one (R182). -/
theorem entersMismatch_setLevel {s : State} {n : Fin 12} {level : Bool} (hn : s.live.inputs[n] = .none)
    (hl : s.levels.getLsbD n.val ≠ level) :
    entersMismatch s (s.setLevel n level) = true ↔ level ≠ s.live.expected.getLsbD n.val := by
  have after (k : Fin 12) : (s.setLevel n level).levels.getLsbD k.val = if k = n then level else s.levels.getLsbD k.val :=
    setLevelBit_getLsbD s.levels n k level
  rw [entersMismatch_iff]
  constructor
  · rintro ⟨k, hbefore, hafter⟩
    rw [Bool.eq_false_iff, Ne, State.mismatch_iff] at hbefore
    obtain ⟨none, differs⟩ := (State.mismatch_iff _ k).mp hafter
    rw [after k] at differs
    by_cases hk : k = n
    · rw [if_pos hk] at differs; exact hk ▸ differs
    · rw [if_neg hk] at differs; exact absurd ⟨none, differs⟩ hbefore
  · intro differs
    have matched : s.levels.getLsbD n.val = s.live.expected.getLsbD n.val :=
      (Bool.eq_not.mpr hl).trans (Bool.eq_not.mpr differs.symm).symm
    refine ⟨n, ?_, (State.mismatch_iff _ n).mpr ⟨hn, by rw [after n, if_pos rfl]; exact differs⟩⟩
    rw [Bool.eq_false_iff, Ne, State.mismatch_iff]
    exact fun h => h.2 matched

/-! ### An ABORT line (R153) -/

/-- Some other line of a function is asserted. -/
def State.otherLine (s : State) (f : InputFunction) (n : Fin 12) : Prop :=
  ∃ k : Fin 12, k ≠ n ∧ s.live.inputs[k] = f ∧ s.levels.getLsbD k.val = true

/-- A function's input is asserted by one of its lines or by another. -/
theorem State.anyAsserted_iff_line {s : State} {f : InputFunction} {n : Fin 12} (hn : s.live.inputs[n] = f) :
    s.anyAsserted f = true ↔ s.levels.getLsbD n.val = true ∨ s.otherLine f n := by
  rw [State.anyAsserted_iff]
  constructor
  · rintro ⟨k, hk, hl⟩
    by_cases h : k = n
    · exact .inl (h ▸ hl)
    · exact .inr ⟨k, h, hk, hl⟩
  · rintro (hl | ⟨k, -, hk, hl⟩)
    · exact ⟨n, hn, hl⟩
    · exact ⟨k, hk, hl⟩

/-- A function's input after a change of one of its lines. -/
theorem State.setLevel_anyAsserted_iff {s : State} {f : InputFunction} {n : Fin 12} (hn : s.live.inputs[n] = f) (level : Bool) :
    (s.setLevel n level).anyAsserted f = true ↔ level = true ∨ s.otherLine f n := by
  rw [State.anyAsserted_iff_line (s := s.setLevel n level) hn]
  refine or_congr ?_ (exists_congr fun k => and_congr_right fun hk => ?_)
  · simp only [State.setLevel, setLevelBit_getLsbD, if_true]
  · simp only [State.setLevel, setLevelBit_getLsbD, if_neg hk]

/-- Under another asserted ABORT line the abort stands as it was (R153). -/
theorem abortLineChanged_of_others {s : State} {n : Fin 12} (hn : s.live.inputs[n] = .abort) (level : Bool)
    (others : s.otherLine .abort n) : abortLineChanged s (s.setLevel n level) = s.setLevel n level := by
  have before : s.abortAsserted = true := (State.anyAsserted_iff_line hn).mpr (.inr others)
  have after : (s.setLevel n level).abortAsserted = true := (State.setLevel_anyAsserted_iff hn level).mpr (.inr others)
  exact if_pos (before.trans after.symm)

/-- With no other ABORT line asserted the abort follows the line, and every countdown with it (R153). -/
theorem abortLineChanged_of_alone {s : State} {n : Fin 12} {level : Bool} (hn : s.live.inputs[n] = .abort)
    (hl : s.levels.getLsbD n.val ≠ level) (alone : ¬ s.otherLine .abort n) :
    abortLineChanged s (s.setLevel n level) = (s.setLevel n level).abortChanged level := by
  have before : s.abortAsserted = s.levels.getLsbD n.val := by
    rw [Bool.eq_iff_iff, State.abortAsserted, State.anyAsserted_iff_line hn, or_iff_left alone]
  have after : (s.setLevel n level).abortAsserted = level := by
    rw [Bool.eq_iff_iff, State.abortAsserted, State.setLevel_anyAsserted_iff hn, or_iff_left alone]
  unfold abortLineChanged
  rw [before, after, if_neg hl]

theorem FireState.afterAbort_eq (asserted : Bool) (full : Nat) (f : FireState) : f.afterAbort asserted full =
    match f with
    | .countdown _ _ => .countdown full asserted
    | f => f := by
  cases f <;> rfl

/-- Settles O35: the abort input, one line's level, and its change by the line's function. -/
theorem inputLinesAreTaken : Obligations.InputLinesAreTaken := by
  refine ⟨fun s => s.anyAsserted_iff .abort, setLevelBit_getLsbD, fun s n level hrun hl => ?_, fun s n level hrun hl => ?_⟩
  · exact (whileRunning_running (f := fun s => s.lineChange n level) hrun).trans (congrArg _ (if_pos hl))
  · rw [exec_inputLineChange hrun hl]
    refine ⟨fun hn => ?_, fun hn => ⟨fun others => ?_, fun alone => ?_⟩, fun z hn => ?_, fun hn => ?_⟩
    · rw [hn]
      dsimp only
      have enters := entersMismatch_setLevel hn hl
      by_cases hm : level = s.live.expected.getLsbD n.val
      · rw [if_pos hm, Bool.eq_false_iff.mpr fun h => enters.mp h hm]; rfl
      · rw [if_neg hm, enters.mpr hm]; rfl
    · rw [hn]; exact congrArg _ (abortLineChanged_of_others hn level others)
    · rw [hn]
      dsimp only
      rw [abortLineChanged_of_alone hn hl alone]
      simp only [State.abortChanged, FireState.afterAbort_eq]
      rfl
    · rw [hn]; rfl
    · rw [hn]; rfl

end Sys2Proof.Machine
end

section
/-! The knocks of the fire sequence: ALARM samples, second knocks and MANUAL_RELEASE (R146 to R149, R151, R152). -/

namespace Sys2Proof.Machine

open Host

/-! ### ALARM samples (R146 to R148) -/

theorem State.alarmSample_quiet {s : State} {z : Zone} (h : s.fire z = .quiet) : s.alarmSample z =
    (s.setZone z { s.zones.get z with
      fire := .prealarm (s.live.release.window * 1000)
      alarmTime := some { value := s.ret.clock, valid := s.ret.clockValid } }).raise .zonePrealarm := by
  simp only [State.alarmSample, h]

theorem State.alarmSample_prealarm {s : State} {z : Zone} {left : Nat} (h : s.fire z = .prealarm left) :
    s.alarmSample z = (s.setFire z .alarmed).raise .zoneAlarm := by
  simp only [State.alarmSample, h]

theorem State.alarmSample_heard {s : State} {z : Zone} (hq : s.fire z ≠ .quiet) (hp : ∀ left, s.fire z ≠ .prealarm left) :
    s.alarmSample z = s := by
  unfold State.alarmSample
  split
  · next h => exact absurd h hq
  · next h => exact absurd h (hp _)
  · rfl

/-! ### Second knocks (R148, R149, R152) -/

/-- An open manifest closes with FIRE (R58, R88). -/
theorem State.abandonForFire_open {s : State} {m : Manifest} (hm : s.manifest = some m) (ho : m.stage.isOpen = true) :
    s.abandonForFire = s.closeWith m .fire := by
  simp only [State.abandonForFire, hm, ho, if_true]

/-- Without an open manifest the fire ends an identification (R58). -/
theorem State.abandonForFire_identified {s : State} (h : ∀ m ∈ s.manifest, m.stage.isOpen = false) {e : Fin 16}
    (he : s.hatch = .identified e) : s.abandonForFire = { s with hatch := .idle, handoverTimer := none } := by
  have present : s.identified.isSome = true := s.identified_isSome_iff.mpr ⟨e, he⟩
  unfold State.abandonForFire
  split
  · next m hm => rw [h m hm, if_neg nofun, if_pos present]
  · rw [if_pos present]

/-- Without an open manifest and without a courier on the link the fire abandons nothing (R58). -/
theorem State.abandonForFire_absent {s : State} (h : ∀ m ∈ s.manifest, m.stage.isOpen = false)
    (he : ∀ e, s.hatch ≠ .identified e) : s.abandonForFire = s := by
  have absent : ¬ s.identified.isSome = true := fun hs => let ⟨e, hatch⟩ := s.identified_isSome_iff.mp hs; he e hatch
  unfold State.abandonForFire
  split
  · next m hm => rw [h m hm, if_neg nofun, if_neg absent]
  · rw [if_neg absent]

/-- A knock that finds its zone ALARMED, enabled and not OFFLINE begins a countdown (R149). -/
def State.hearsKnock (s : State) (z : Zone) : Prop :=
  s.fire z = .alarmed ∧ (s.settings z).release.enabled = true ∧ s.mode z ≠ .offline

theorem State.secondKnock_heard {s : State} {z : Zone} (h : s.hearsKnock z) : s.secondKnock z = s.enterCountdown z := if_pos h

theorem State.secondKnock_ignored {s : State} {z : Zone} (h : ¬ s.hearsKnock z) : s.secondKnock z = s := if_neg h

theorem State.enterCountdown_fire (s : State) (z : Zone) :
    (s.enterCountdown z).fire z = .countdown (s.live.release.countdown * 1000) s.abortAsserted := by
  rw [State.enterCountdown, State.fire_congr (congrArg Plant.zones (State.abandonForFire_plant _)),
    State.fire_congr (State.raise_zones _ _), State.setFire_fire, if_pos rfl]

/-! ### MANUAL_RELEASE (R151) -/

/-- The state that a second knock leaves an ALARMED zone in (R149). -/
theorem State.secondKnock_number {s : State} {z : Zone} (h : s.fire z = .alarmed) : ((s.secondKnock z).fire z).number =
    if (s.settings z).release.enabled = true ∧ s.mode z ≠ .offline then 3 else 2 := by
  by_cases hk : (s.settings z).release.enabled = true ∧ s.mode z ≠ .offline
  · rw [if_pos hk, State.secondKnock_heard ⟨h, hk⟩, State.enterCountdown_fire]; rfl
  · rw [if_neg hk, State.secondKnock_ignored fun hh => hk hh.2, h]; rfl

/-- MANUAL_RELEASE of an ALARMED zone is a second knock (R151). -/
theorem manualRelease_judged {s : State} {zone : Byte} {z : Zone} (htake : s.takes .facility (.manualRelease zone))
    (hz : zoneOf zone = some z) :
    exec (.manualRelease zone) s = judged s .facility 0x44 [(decide (s.fire z ≠ .alarmed), .wrongState)] (s.secondKnock z)
      [zone, if (s.settings z).release.enabled ∧ s.mode z ≠ .offline then 3 else 2] := by
  refine (takeRequest_taken (ownManualRelease zone) htake).trans ?_
  simp only [ownManualRelease, hz]
  refine judged_of_if rfl fun hf => ?_
  have alarmed : s.fire z = .alarmed := not_not.mp hf
  simp only [State.fireBytes, State.secondKnock_number alarmed, zoneOf_byte hz]
  split <;> rfl

/-- Settles O44: the ALARM sample and the second knock by the zone's fire state, and the request that is such a knock. -/
theorem knocksMoveTheFireSequence : Obligations.KnocksMoveTheFireSequence := by
  refine ⟨fun s z => ⟨State.alarmSample_quiet, fun left => State.alarmSample_prealarm, fun h => State.alarmSample_heard h.1 h.2⟩,
    fun s z => ⟨State.secondKnock_ignored, fun heard => ?_⟩, fun s zone htake => ⟨fun h => ?_, fun z hz => ?_⟩⟩
  · rw [State.secondKnock_heard heard]
    exact ⟨fun m hm ho => State.abandonForFire_open hm ho, fun closed =>
      ⟨fun e he => State.abandonForFire_identified closed he, fun absent => State.abandonForFire_absent closed absent⟩⟩
  · exact takeRequest_refused htake (by rw [ownManualRelease, h])
  · exact manualRelease_judged htake hz

end Sys2Proof.Machine
end

section
/-! The expiries of the fire sequence: the verification window, the countdown and the release pulse (R147, R153, R155 to R158). -/

namespace Sys2Proof.Machine

open Host

/-! ### The verification window (R147) -/

theorem exec_windowExpiry_due {s : State} {z : Zone} (hrun : s.phase = .running) (h : s.fire z = .prealarm 0) :
    exec (.verificationWindowExpiry z) s = .next (s.setFire z .quiet) :=
  (whileRunning_running (f := fun s => s.windowExpiry z) hrun).trans (congrArg _ (if_pos h))

theorem exec_windowExpiry_early {s : State} {z : Zone} (h : s.fire z ≠ .prealarm 0) :
    exec (.verificationWindowExpiry z) s = .next s :=
  whileRunning_unchanged (f := fun s => s.windowExpiry z) (if_neg h)

/-! ### The bank (R155, R158) -/

theorem State.bankAvailable_iff (s : State) : s.bankAvailable = true ↔
    s.bank = .ready ∧ ∀ n : Fin 12, s.live.inputs[n] = .bankLow → s.levels.getLsbD n.val = false := by
  simp only [State.bankAvailable, Bool.and_eq_true, decide_eq_true_eq, Bool.not_eq_true', State.bankLow, Bool.eq_false_iff, Ne,
    State.anyAsserted_iff, not_exists, not_and]

theorem Record.giveAgent_eq (r : Record) (p : Prop) [Decidable p] :
    r.giveAgent (decide p) = if p then { r with marks := { r.marks with agent := true } } else r := by
  by_cases h : p <;> simp [Record.giveAgent, h]

theorem State.writeBank_eq (s : State) (b : BankRecord) : s.writeBank b =
    { s with
      store := if s.storeBusy then s.store else { s.store with bank := some b }
      ret := { s.ret with pendingBank := if s.storeBusy then some b else s.ret.pendingBank } } := by
  unfold State.writeBank
  cases s.storeBusy <;> rfl

/-- A discharge written out: the bank is committed and recorded SPENT, and the records located in the zone gain AGENT (R156 to
R158). -/
theorem State.discharge_eq (s : State) (z : Zone) : s.discharge z =
    { s with
      bank := .committed z (s.live.release.pulse * 1000)
      store := if s.storeBusy then s.store else { s.store with bank := some .spent }
      ret := { s.ret with
        records := s.ret.records.map fun r =>
          if s.location r = some z then { r with marks := { r.marks with agent := true } } else r
        pendingBank := if s.storeBusy then some .spent else s.ret.pendingBank }
      zones := s.zones.set z { s.zones.get z with fire := .discharged }
      flags := s.flags ||| EventFlag.discharge.mask } := by
  simp only [State.discharge, State.writeBank_eq, State.agentZone, Record.giveAgent_eq]
  rfl

/-! ### The countdown (R153, R156) -/

theorem exec_countdownExpiry_available {s : State} {z : Zone} (hrun : s.phase = .running) (h : s.fire z = .countdown 0 false)
    (ha : s.bankAvailable = true) : exec (.countdownExpiry z) s = .next (s.discharge z) := by
  refine (whileRunning_running (f := fun s => s.countdownExpiry z) hrun).trans (congrArg _ ?_)
  simp only [State.countdownExpiry, h, ha, if_true]

theorem exec_countdownExpiry_unavailable {s : State} {z : Zone} (hrun : s.phase = .running) (h : s.fire z = .countdown 0 false)
    (ha : ¬ s.bankAvailable = true) : exec (.countdownExpiry z) s = .next (s.starve z) := by
  refine (whileRunning_running (f := fun s => s.countdownExpiry z) hrun).trans (congrArg _ ?_)
  simp only [State.countdownExpiry, h, if_neg ha]

theorem exec_countdownExpiry_early {s : State} {z : Zone} (h : s.fire z ≠ .countdown 0 false) :
    exec (.countdownExpiry z) s = .next s := by
  refine whileRunning_unchanged (f := fun s => s.countdownExpiry z) ?_
  unfold State.countdownExpiry
  split
  · next hf => exact absurd hf h
  · rfl

/-! ### The release pulse (R157) -/

theorem exec_releasePulseEnd_due {s : State} {z : Zone} (hrun : s.phase = .running) (h : s.bank = .committed z 0) :
    exec .releasePulseEnd s = .next { s with bank := .spent } := by
  refine (whileRunning_running hrun).trans (congrArg _ ?_)
  simp only [State.pulseEnd, h]

theorem exec_releasePulseEnd_early {s : State} (h : ∀ z, s.bank ≠ .committed z 0) : exec .releasePulseEnd s = .next s := by
  refine whileRunning_unchanged ?_
  unfold State.pulseEnd
  split
  · next hb => exact absurd hb (h _)
  · rfl

/-- Settles O45: each expiry that is due, and each that is not. -/
theorem fireTimersExpire : Obligations.FireTimersExpire := by
  refine ⟨fun s z hrun => ⟨exec_windowExpiry_due hrun, exec_windowExpiry_early⟩,
    fun s z hrun => ⟨fun h => ⟨fun ha => ?_, fun ha => ?_⟩, exec_countdownExpiry_early⟩,
    fun s hrun => ⟨fun z => exec_releasePulseEnd_due hrun, exec_releasePulseEnd_early⟩⟩
  · rw [exec_countdownExpiry_available hrun h (s.bankAvailable_iff.mpr ha), State.discharge_eq]
  · exact exec_countdownExpiry_unavailable hrun h (mt s.bankAvailable_iff.mp ha)

end Sys2Proof.Machine
end

section
/-! The requests on the fire sequence and the bank: ABORT_RELEASE, RESET_ALARM, BANK_RELOADED and SET_RELEASE (R154, R159, R160,
R164). -/

namespace Sys2Proof.Machine

open Host

/-! ### ABORT_RELEASE and RESET_ALARM (R154, R159) -/

/-- The zone's number and the fire state that a request gives it, as the request answers them. -/
theorem State.setFire_fireBytes (s : State) {zone : Byte} {z : Zone} (hz : zoneOf zone = some z) (f : FireState) :
    (s.setFire z f).fireBytes z = [zone, byteOf f.number] := by
  rw [State.fireBytes, State.setFire_fire, if_pos rfl, zoneOf_byte hz]

/-- ABORT_RELEASE's test and the zone it returns to ALARMED (R154). -/
theorem abortRelease_judged {s : State} {zone : Byte} {z : Zone} (htake : s.takes .facility (.abortRelease zone))
    (hz : zoneOf zone = some z) :
    exec (.abortRelease zone) s = judged s .facility 0x43 [(!(s.fire z).isCountdown, .wrongState)] (s.setFire z .alarmed)
      [zone, 2] := by
  refine (takeRequest_taken (ownAbortRelease zone) htake).trans ?_
  simp only [ownAbortRelease, hz, s.setFire_fireBytes hz]
  exact judged_of_if (by simp) fun _ => rfl

/-- RESET_ALARM's tests of the zone, in their order (R159). -/
def State.resetAlarmTests (s : State) (z : Zone) : List (Bool × Status) :=
  let l := (s.zones.get z).loop
  [(decide (s.fire z = .quiet) || (s.fire z).isCountdown || decide (s.fire z = .discharged ∧ s.pulseZone = some z), .wrongState),
    (decide (l.state ≠ .isolated ∧ l.latest.map Prod.snd ≠ some .normal), .stillActive)]

theorem State.resetAlarmRefusal_eq (s : State) (z : Zone) : s.resetAlarmRefusal z = firstFailing (s.resetAlarmTests z) := by
  unfold State.resetAlarmRefusal State.resetAlarmTests
  simp only [firstFailing_cons, firstFailing_nil, decide_eq_true_eq]
  refine if_congr ?_ rfl rfl
  rw [Bool.or_eq_true, Bool.or_eq_true, decide_eq_true_eq, decide_eq_true_eq, or_assoc]

/-- RESET_ALARM's tests and the zone it returns to QUIET (R159). -/
theorem resetAlarm_judged {s : State} {zone : Byte} {z : Zone} (htake : s.takes .facility (.resetAlarm zone))
    (hz : zoneOf zone = some z) :
    exec (.resetAlarm zone) s = judged s .facility 0x45 (s.resetAlarmTests z) (s.setFire z .quiet) [zone, 0] := by
  refine (takeRequest_taken (ownResetAlarm zone) htake).trans ?_
  simp only [ownResetAlarm, hz, s.setFire_fireBytes hz]
  exact judged_of_answer (s.resetAlarmRefusal_eq z) (fun x hx => by rw [hx]) fun h => by rw [h]; rfl

/-! ### BANK_RELOADED (R160) -/

/-- BANK_RELOADED's tests, and the bank READY and recorded so (R160). -/
theorem bankReloaded_judged {s : State} (htake : s.takes .facility .bankReloaded) :
    exec .bankReloaded s = judged s .facility 0x46 [(decide (s.bank ≠ .spent), .wrongState), (s.storeBusy, .storeBusy)]
      { s with bank := .ready, store := { s.store with bank := some .ready } } [0] := by
  refine (takeRequest_taken ownBankReloaded htake).trans ?_
  unfold ownBankReloaded
  refine judged_of_if rfl fun _ => judged_of_if (by simp) fun hb => ?_
  have written : State.writeBank { s with bank := .ready } .ready =
      { s with bank := .ready, store := { s.store with bank := some .ready } } := if_neg hb
  rw [written]; rfl

/-! ### SET_RELEASE (R164) -/

theorem ownSetRelease_badParam {s : State} {scope b0 b1 b2 b3 : Byte} (h : 7 < scope.toNat) :
    ownSetRelease scope b0 b1 b2 b3 s = refused s .badParam := by
  have zoned : scope ≠ 0 := by rintro rfl; exact absurd h (by decide)
  have none : zoneOf scope = none := by
    cases hz : zoneOf scope with
    | none => rfl
    | some z =>
      have number := (zoneOf_eq_some_iff scope z).mp hz
      cases z <;> simp [Zone.number] at number <;> omega
  simp only [ownSetRelease, if_neg zoned, none]

theorem clampedTimes_eq (b0 b1 b2 : Byte) : clampedTimes b0 b1 b2 =
    { window := max 10 (min 120 b0.toNat), countdown := max 10 (min 60 b1.toNat), pulse := max 1 (min 10 b2.toNat) } := by
  simp [clampedTimes, clampNat_eq]

theorem clampedRelease_eq (enabled : Bool) (b1 b2 b3 : Byte) : clampedRelease enabled b1 b2 b3 =
    { enabled := enabled, heatAbs := max 200 (min 1000 (b1 ++ b2).toInt), heatRise := max 5 (min 200 (b3.toNat : Int)) } := by
  simp [clampedRelease, clampInt_eq]

/-- A byte that says yes or no is the one that answers it (R173). -/
theorem yesNo_byte {b : Byte} (h : ¬ 1 < b.toNat) : yesNo (decide (b = 1)) = b := by
  have : b = 0 ∨ b = 1 := by bv_omega
  rcases this with rfl | rfl <;> rfl

/-- SET_RELEASE of the global settings: its tests and the times it clamps (R164). -/
theorem setReleaseTimes_judged {s : State} {b0 b1 b2 b3 : Byte} (htake : s.takes .facility (.setRelease 0 b0 b1 b2 b3)) :
    let x := clampedTimes b0 b1 b2
    exec (.setRelease 0 b0 b1 b2 b3) s = judged s .facility 0x47
      [(Zone.all.any fun z => decide (s.mode z ≠ .offline), .zoneMode), (s.storeBusy, .storeBusy)]
      { s with live := { s.live with release := x } } [byteOf x.window, byteOf x.countdown, byteOf x.pulse] := by
  refine (takeRequest_taken (ownSetRelease 0 b0 b1 b2 b3) htake).trans ?_
  rw [ownSetRelease, if_pos rfl]
  refine judged_of_if ?_ fun _ => judged_of_if (by simp) fun _ => rfl
  rw [s.allOffline_eq]
  cases Zone.all.any fun z => decide (s.mode z ≠ .offline) <;> rfl

/-- SET_RELEASE of a zone: its tests and the settings it clamps (R164). -/
theorem setReleaseZone_judged {s : State} {scope b0 b1 b2 b3 : Byte} {z : Zone}
    (htake : s.takes .facility (.setRelease scope b0 b1 b2 b3)) (hz : zoneOf scope = some z) :
    let x := clampedRelease (decide (b0 = 1)) b1 b2 b3
    exec (.setRelease scope b0 b1 b2 b3) s = judged s .facility 0x47
      [(decide (1 < b0.toNat), .badParam), (decide (s.mode z ≠ .offline), .zoneMode), (s.storeBusy, .storeBusy)]
      (s.setSettings z { s.settings z with release := x }) ([b0] ++ beS16 x.heatAbs ++ beS8 x.heatRise) := by
  have zoned : scope ≠ 0 := by rintro rfl; cases hz
  refine (takeRequest_taken (ownSetRelease scope b0 b1 b2 b3) htake).trans ?_
  simp only [ownSetRelease, if_neg zoned, hz]
  refine judged_of_if rfl fun hb => judged_of_if rfl fun _ => judged_of_if (by simp) fun _ => ?_
  have answered : yesNo (clampedRelease (decide (b0 = 1)) b1 b2 b3).enabled = b0 := yesNo_byte hb
  rw [answered]; rfl

/-- Settles O46: each request's tests in their order, and its effect. -/
theorem fireRequests : Obligations.FireRequests := by
  refine ⟨FireState.isCountdown_iff, State.pulseZone_iff,
    fun s zone htake => ⟨fun h => takeRequest_refused htake (by rw [ownAbortRelease, h]), fun z hz => abortRelease_judged htake hz⟩,
    fun s zone htake => ⟨fun h => takeRequest_refused htake (by rw [ownResetAlarm, h]), fun z hz => resetAlarm_judged htake hz⟩,
    fun s htake => bankReloaded_judged htake, fun s scope b0 b1 b2 b3 htake =>
      ⟨fun h => takeRequest_refused htake (ownSetRelease_badParam h), fun h => ?_, fun z hz => ?_⟩⟩
  · subst h
    intro x
    have clamped : clampedTimes b0 b1 b2 = x := clampedTimes_eq b0 b1 b2
    rw [← clamped]
    exact setReleaseTimes_judged htake
  · intro x
    have clamped : clampedRelease (decide (b0 = 1)) b1 b2 b3 = x := clampedRelease_eq _ b1 b2 b3
    rw [← clamped]
    exact setReleaseZone_judged htake hz

end Sys2Proof.Machine
end

section
/-! The step law: the command at the front of the queue, or a millisecond in which none waits (section 9.3, R153, R168, R185). -/

namespace Sys2Proof.Machine

open Host

theorem step_of_waiting {s : State} {c : Instr} {rest : List Instr} (h : s.pending = c :: rest) :
    step s = exec c { s with pending := rest } := by
  simp only [step, h]

theorem step_of_none_waiting {s : State} (h : s.pending = []) : step s = .next s.idle := by
  simp only [step, h]

/-! ### The millisecond (R153, R157, R185) -/

theorem FireState.pass_eq (f : FireState) : f.pass =
    match f with
    | .prealarm left => .prealarm (left - 1)
    | .countdown left false => .countdown (left - 1) false
    | f => f := by
  cases f with
  | countdown left held => cases held <;> rfl
  | _ => rfl

theorem Bank.pass_eq (b : Bank) : b.pass =
    match b with
    | .committed z left => .committed z (left - 1)
    | b => b := by
  cases b <;> rfl

/-- Only the clock's second runs in a part that does not run (R185). -/
theorem State.idle_stopped {s : State} (h : s.phase ≠ .running) : s.idle = { s with secondLeft := s.secondLeft - 1 } := if_neg h

/-- Settles O1: the front command, and the millisecond by the part's phase. -/
theorem stepTakesFrontCommand : Obligations.StepTakesFrontCommand := by
  refine fun s => ⟨fun c rest => step_of_waiting, step_of_none_waiting, State.idle_stopped, fun hrun => ?_⟩
  rw [State.idle, if_pos hrun]
  simp only [ZoneState.pass, FireState.pass_eq, Bank.pass_eq]
  rfl

end Sys2Proof.Machine
end

section
/-! The queue is the outside's (log entry 4): no operation of the part touches the commands that wait. -/

namespace Sys2Proof.Machine

open Host

/-! ### The manifest and the fire sequence (R71, R148 to R158) -/

@[simp] theorem State.closeWith_pending (s : State) (m : Manifest) (cause : Cause) :
    (s.closeWith m cause).pending = s.pending := rfl

@[simp] theorem State.abandonForFire_pending (s : State) : s.abandonForFire.pending = s.pending := by
  unfold State.abandonForFire; repeat' split
  all_goals rfl

@[simp] theorem State.secondKnock_pending (s : State) (z : Zone) : (s.secondKnock z).pending = s.pending := by
  unfold State.secondKnock State.enterCountdown; split <;> simp

@[simp] theorem State.alarmSample_pending (s : State) (z : Zone) : (s.alarmSample z).pending = s.pending := by
  unfold State.alarmSample; split <;> simp

@[simp] theorem State.writeBank_pending_commands (s : State) (b : BankRecord) : (s.writeBank b).pending = s.pending := by
  unfold State.writeBank; split <;> rfl

@[simp] theorem State.countdownExpiry_pending (s : State) (z : Zone) : (s.countdownExpiry z).pending = s.pending := by
  unfold State.countdownExpiry; repeat' split
  · simp [State.discharge, State.agentZone]
  · simp [State.starve]
  · rfl

/-! ### Samples (R94 to R104, R127 to R135) -/

@[simp] theorem State.account_pending (s : State) (z : Zone) (weight : Nat) : (s.account z weight).pending = s.pending := by
  unfold State.account; dsimp only; split <;> simp [State.exposeZone]

@[simp] theorem State.sampleClimate_pending (s : State) (z : Zone) (counts : RawCounts) :
    (s.sampleClimate z counts).pending = s.pending := by
  unfold State.sampleClimate State.sensorFault State.goodSample
  dsimp only
  repeat' split
  all_goals simp

@[simp] theorem State.sampleLoop_pending (s : State) (z : Zone) (count : BitVec 12) :
    (s.sampleLoop z count).pending = s.pending := by
  unfold State.sampleLoop State.freeze
  dsimp only
  repeat' split
  all_goals simp

/-- A round of samples, one a zone, keeps the queue when each sample does. -/
theorem foldl_pending {f : State → Zone → State} (hf : ∀ (t : State) z, (f t z).pending = t.pending) (zs : List Zone)
    (s : State) : (zs.foldl f s).pending = s.pending := by
  induction zs generalizing s with
  | nil => rfl
  | cons z zs ih => exact (ih _).trans (hf s z)

@[simp] theorem State.firstSamples_pending (s : State) (climate : PerZone RawCounts) (loops : PerZone (BitVec 12)) :
    (s.firstSamples climate loops).pending = s.pending :=
  (foldl_pending (fun t z => t.sampleLoop_pending z _) _ _).trans (foldl_pending (fun t z => t.sampleClimate_pending z _) _ s)

/-! ### The lines (R62 to R64, R153, R181, R182) -/

@[simp] theorem followDoor_pending (s t : State) : (followDoor s t).pending = t.pending := by rw [followDoor_eq]

@[simp] theorem State.lineChange_pending (s : State) (n : Fin 12) (level : Bool) :
    (s.lineChange n level).pending = s.pending := by
  unfold State.lineChange doorChanged abortLineChanged
  dsimp only
  repeat' split
  all_goals simp [State.abortChanged]

@[simp] theorem State.openLimitReached_pending (s : State) : s.openLimitReached.pending = s.pending := by
  unfold State.openLimitReached; repeat' split
  all_goals rfl

/-! ### Expiries, ticks, the clock and the store (R21, R54, R73, R120, R147, R157, R185, R187) -/

@[simp] theorem State.handoverExpiry_pending (s : State) : s.handoverExpiry.pending = s.pending := by
  unfold State.handoverExpiry; repeat' split
  all_goals rfl

@[simp] theorem State.releaseExpiry_pending (s : State) : s.releaseExpiry.pending = s.pending := by
  unfold State.releaseExpiry; split <;> rfl

@[simp] theorem State.windowExpiry_pending (s : State) (z : Zone) : (s.windowExpiry z).pending = s.pending := by
  unfold State.windowExpiry; split <;> simp

@[simp] theorem State.pulseEnd_pending (s : State) : s.pulseEnd.pending = s.pending := by
  unfold State.pulseEnd; split <;> rfl

@[simp] theorem State.overdueCheck_pending (s : State) : s.overdueCheck.pending = s.pending := by simp [State.overdueCheck]

@[simp] theorem State.minuteTick_pending (s : State) : s.minuteTick.pending = s.pending := by
  unfold State.minuteTick; split <;> simp

@[simp] theorem State.clockSecond_pending (s : State) : s.clockSecond.pending = s.pending := by
  unfold State.clockSecond; repeat' split
  all_goals rfl

@[simp] theorem State.storeComplete_pending (s : State) : s.storeComplete.pending = s.pending := by
  unfold State.storeComplete; split <;> rfl

/-! ### The links (R165 to R169) -/

/-- What a link does writes the link and discards its frames, and so keeps the queue. -/
theorem linkUpdates_pending (s : State) (k : LinkId) : LinkUpdatesKeep k fun t => t.pending = s.pending :=
  ⟨fun t l h => (t.setLink_pending k l).trans h, fun t h => (t.discardFrame_pending k).trans h⟩

end Sys2Proof.Machine
end

section
/-! What each command is: a request, which its link hands to an owner block, or an event, which answers by itself. An owner block
leaves the queue as it was, and only its OK carries results (R169, R170). With that, what becomes of a request on its link
(R167 to R169, R172), and the answer of every command. -/

namespace Sys2Proof.Machine

open Host

/-! ### What an owner block may answer (R169) -/

/-- An answer to a request of a state: the queue is as it was, and a refusal has no results. -/
structure Answer.WellMade (a : Answer) (s : State) : Prop where
  queue : a.state.pending = s.pending
  results : a.status ≠ .ok → a.results = []

@[simp] theorem refused_wellMade (s t : State) (x : Status) : (refused t x).WellMade s ↔ t.pending = s.pending :=
  ⟨fun h => h.queue, fun h => ⟨h, fun _ => rfl⟩⟩

@[simp] theorem accepted_wellMade (s t : State) (results : List Byte) :
    (accepted t results).WellMade s ↔ t.pending = s.pending :=
  ⟨fun h => h.queue, fun h => ⟨h, fun hne => absurd rfl hne⟩⟩

@[simp] theorem changeRecord_wellMade (label : Label) (f : Record → Record) (s : State) (r : Record) :
    (changeRecord label f s r).WellMade s := by
  simp [changeRecord]

theorem withRecord_wellMade {label : Label} {s : State} {f : Record → Answer} (h : ∀ r, (f r).WellMade s) :
    (withRecord label s f).WellMade s := by
  unfold withRecord
  repeat' split
  · simp
  · simp
  · exact h _

theorem whenIdentified_wellMade {s : State} {f : Fin 16 → Answer} (h : ∀ e, (f e).WellMade s) :
    (whenIdentified s f).WellMade s := by
  unfold whenIdentified
  split
  · simp
  · simp
  · exact h _

/-! ### The custody table (R8 to R18, R22, R33) -/

theorem ownEnroll_wellMade (label : Label) (cls : Byte) (slot : BitVec 16) (s : State) :
    (ownEnroll label cls slot s).WellMade s := by
  unfold ownEnroll; repeat' split
  all_goals simp

theorem ownLookup_wellMade (label : Label) (s : State) : (ownLookup label s).WellMade s :=
  withRecord_wellMade fun _ => by simp

theorem ownSlotQuery_wellMade (slot : BitVec 16) (s : State) : (ownSlotQuery slot s).WellMade s := by
  unfold ownSlotQuery; dsimp only; repeat' split
  all_goals simp

theorem ownNextLabel_wellMade (label : Label) (s : State) : (ownNextLabel label s).WellMade s := by
  unfold ownNextLabel; repeat' split
  all_goals simp

theorem ownPlace_wellMade (label : Label) (slot : BitVec 16) (s : State) : (ownPlace label slot s).WellMade s := by
  unfold ownPlace; split
  · simp
  · refine withRecord_wellMade fun r => ?_
    repeat' split
    all_goals simp

theorem ownRelocate_wellMade (label : Label) (slot : BitVec 16) (s : State) : (ownRelocate label slot s).WellMade s := by
  unfold ownRelocate; split
  · simp
  · refine withRecord_wellMade fun r => ?_
    repeat' split
    all_goals simp

theorem ownUnbind_wellMade (label : Label) (s : State) : (ownUnbind label s).WellMade s :=
  withRecord_wellMade fun r => by split <;> simp

theorem ownRetire_wellMade (label : Label) (s : State) : (ownRetire label s).WellMade s :=
  withRecord_wellMade fun r => by split <;> simp

theorem ownClearMark_wellMade (label : Label) (mark : Byte) (s : State) : (ownClearMark label mark s).WellMade s := by
  unfold ownClearMark; split
  · simp
  · exact withRecord_wellMade fun r => by split <;> simp

theorem ownSetClass_wellMade (label : Label) (cls : Byte) (s : State) : (ownSetClass label cls s).WellMade s := by
  unfold ownSetClass; split
  · simp
  · exact withRecord_wellMade fun _ => by simp

theorem ownExtendDue_wellMade (label : Label) (hours : BitVec 16) (s : State) : (ownExtendDue label hours s).WellMade s := by
  unfold ownExtendDue; split
  · simp
  · refine withRecord_wellMade fun r => ?_
    repeat' split
    all_goals simp

theorem ownSetClassLimit_wellMade (cls : Byte) (limit : BitVec 16) (s : State) : (ownSetClassLimit cls limit s).WellMade s := by
  unfold ownSetClassLimit; repeat' split
  all_goals simp

theorem ownSetBoundary_wellMade (boundary value : Byte) (s : State) : (ownSetBoundary boundary value s).WellMade s := by
  unfold ownSetBoundary; dsimp only; repeat' split
  all_goals simp

/-! ### The manifest at the facility (R73, R76 to R79, R87, R89) -/

theorem ownOpenManifest_wellMade (direction courier : Byte) (consignment due : BitVec 16) (s : State) :
    (ownOpenManifest direction courier consignment due s).WellMade s := by
  unfold ownOpenManifest; repeat' split
  all_goals simp

theorem ownAddItem_wellMade (label : Label) (s : State) : (ownAddItem label s).WellMade s := by
  unfold ownAddItem; repeat' split
  all_goals simp

theorem ownDropItem_wellMade (label : Label) (s : State) : (ownDropItem label s).WellMade s := by
  unfold ownDropItem; repeat' split
  all_goals simp

theorem ownOfferManifest_wellMade (s : State) : (ownOfferManifest s).WellMade s := by
  unfold ownOfferManifest; split
  · simp
  · split
    · simp
    · split <;> simp

theorem ownCancelManifest_wellMade (s : State) : (ownCancelManifest s).WellMade s := by
  unfold ownCancelManifest; repeat' split
  all_goals simp

theorem ownReadManifest_wellMade (s : State) : (ownReadManifest s).WellMade s := by
  unfold ownReadManifest; split <;> simp

theorem ownReleaseManifest_wellMade (s : State) : (ownReleaseManifest s).WellMade s := by
  unfold ownReleaseManifest; repeat' split
  all_goals simp [State.freeManifest]

/-! ### Couriers and the hatch (R49 to R59, R80 to R86, R90) -/

theorem ownEnrolCourier_wellMade (entry : Byte) (badge : BitVec 24) (code : AccessCode) (s : State) :
    (ownEnrolCourier entry badge code s).WellMade s := by
  unfold ownEnrolCourier; repeat' split
  all_goals simp

theorem ownRevokeCourier_wellMade (entry : Byte) (s : State) : (ownRevokeCourier entry s).WellMade s := by
  unfold ownRevokeCourier; repeat' split
  all_goals simp

theorem ownUnlockCourier_wellMade (entry : Byte) (s : State) : (ownUnlockCourier entry s).WellMade s := by
  unfold ownUnlockCourier; repeat' split
  all_goals simp

theorem ownReadCourier_wellMade (entry : Byte) (s : State) : (ownReadCourier entry s).WellMade s := by
  unfold ownReadCourier; split <;> simp

theorem ownIdentify_wellMade (badge : BitVec 24) (code : AccessCode) (s : State) : (ownIdentify badge code s).WellMade s := by
  unfold ownIdentify; dsimp only; repeat' split
  all_goals simp [State.endLapse_eq, State.failedAttempt, State.identifyAs]

theorem ownDeclare_wellMade (consignment : BitVec 16) (caseT caseH : Option (BitVec 16)) (s : State) :
    (ownDeclare consignment caseT caseH s).WellMade s := by
  refine whenIdentified_wellMade fun e => ?_
  repeat' split
  all_goals simp

theorem ownDeposit_wellMade (label : Label) (s : State) : (ownDeposit label s).WellMade s := by
  refine whenIdentified_wellMade fun e => ?_
  repeat' split
  all_goals simp

theorem ownChoose_wellMade (label : Label) (x : ItemState) (s : State) : (ownChoose label x s).WellMade s := by
  refine whenIdentified_wellMade fun e => ?_
  repeat' split
  all_goals simp

theorem ownView_wellMade (s : State) : (ownView s).WellMade s :=
  whenIdentified_wellMade fun e => by split <;> simp

theorem ownFinish_wellMade (s : State) : (ownFinish s).WellMade s :=
  whenIdentified_wellMade fun e => by split <;> simp

theorem ownLeave_wellMade (s : State) : (ownLeave s).WellMade s := by
  unfold ownLeave; repeat' split
  all_goals simp [State.endVisit]

/-! ### Zones, climate, loops and the fire sequence (R41, R46, R47, R107 to R110, R119, R136 to R140, R151 to R164) -/

theorem State.changeMode_pending (s : State) (z : Zone) (m : ZoneMode) : (s.changeMode z m).pending = s.pending := by
  unfold State.changeMode; split <;> simp

theorem ownSetZoneMode_wellMade (zone mode : Byte) (s : State) : (ownSetZoneMode zone mode s).WellMade s := by
  unfold ownSetZoneMode; repeat' split
  all_goals simp [State.changeMode_pending]

theorem ownReadZone_wellMade (zone : Byte) (s : State) : (ownReadZone zone s).WellMade s := by
  unfold ownReadZone; split <;> simp

theorem ownSetStartMode_wellMade (zone mode : Byte) (s : State) : (ownSetStartMode zone mode s).WellMade s := by
  unfold ownSetStartMode; repeat' split
  all_goals simp

theorem ownResetDose_wellMade (zone : Byte) (s : State) : (ownResetDose zone s).WellMade s := by
  unfold ownResetDose; repeat' split
  all_goals simp

theorem ownSetClimate_wellMade (zone : Byte) (c : ClimateSettings) (s : State) : (ownSetClimate zone c s).WellMade s := by
  unfold ownSetClimate; repeat' split
  all_goals simp

theorem ownSetTrim_wellMade (zone trimT trimH : Byte) (s : State) : (ownSetTrim zone trimT trimH s).WellMade s := by
  unfold ownSetTrim; repeat' split
  all_goals simp

theorem ownSetConditioning_wellMade (kT kH base : Byte) (s : State) : (ownSetConditioning kT kH base s).WellMade s := by
  unfold ownSetConditioning; split <;> simp

theorem ownSetLoop_wellMade (loop : Byte) (openMax normalMax alarmMax : BitVec 16) (policy capture : Byte) (s : State) :
    (ownSetLoop loop openMax normalMax alarmMax policy capture s).WellMade s := by
  unfold ownSetLoop; repeat' split
  all_goals simp

theorem ownLoopReturn_wellMade (loop : Byte) (s : State) : (ownLoopReturn loop s).WellMade s := by
  unfold ownLoopReturn; dsimp only; repeat' split
  all_goals simp

theorem ownClearLoopFlags_wellMade (loop : Byte) (o h a : Bool) (s : State) : (ownClearLoopFlags loop o h a s).WellMade s := by
  unfold ownClearLoopFlags; split <;> simp

theorem ownAbortRelease_wellMade (zone : Byte) (s : State) : (ownAbortRelease zone s).WellMade s := by
  unfold ownAbortRelease; repeat' split
  all_goals simp

theorem ownManualRelease_wellMade (zone : Byte) (s : State) : (ownManualRelease zone s).WellMade s := by
  unfold ownManualRelease; repeat' split
  all_goals simp

theorem ownResetAlarm_wellMade (zone : Byte) (s : State) : (ownResetAlarm zone s).WellMade s := by
  unfold ownResetAlarm; repeat' split
  all_goals simp

theorem ownBankReloaded_wellMade (s : State) : (ownBankReloaded s).WellMade s := by
  unfold ownBankReloaded; repeat' split
  all_goals simp

theorem ownSetRelease_wellMade (scope b0 b1 b2 b3 : Byte) (s : State) : (ownSetRelease scope b0 b1 b2 b3 s).WellMade s := by
  unfold ownSetRelease; repeat' split
  all_goals simp

/-! ### Events, lines and settings (R75, R165, R180 to R185, R187) -/

theorem ownSetEventEnable_wellMade (enables : BitVec 24) (s : State) : (ownSetEventEnable enables s).WellMade s := by
  unfold ownSetEventEnable; split <;> simp

theorem ownSetClock_wellMade (count : BitVec 32) (s : State) : (ownSetClock count s).WellMade s := by simp [ownSetClock]

theorem ownSetLine_wellMade (line : Byte) (level : Bool) (s : State) : (ownSetLine line level s).WellMade s := by
  unfold ownSetLine; repeat' split
  all_goals simp

theorem ownSetExpect_wellMade (levels : BitVec 16) (s : State) : (ownSetExpect levels s).WellMade s := by
  unfold ownSetExpect; split <;> simp

/-- A line takes a function, and the queue stands (R184). -/
theorem ownSetLineFunction_wellMade (direction line function zone : Byte) (s : State) :
    (ownSetLineFunction direction line function zone s).WellMade s := by
  unfold ownSetLineFunction
  extract_lets change
  have changes (f : State → State) (hf : change = some f) : (f s).pending = s.pending := by
    unfold change at hf
    split at hf
    · obtain ⟨x, -, rfl⟩ := Option.map_eq_some_iff.mp hf; simp [State.setInputFunction]
    · obtain ⟨x, -, rfl⟩ := Option.map_eq_some_iff.mp hf; rfl
    · cases hf
  clear_value change
  repeat' split
  · simp
  · simp
  · simp
  · next f _ _ => simpa using changes f rfl

theorem ownSetTimers_wellMade (h r o : BitVec 16) (s : State) : (ownSetTimers h r o s).WellMade s := by
  unfold ownSetTimers; split <;> simp

theorem ownStoreSettings_wellMade (s : State) : (ownStoreSettings s).WellMade s := by
  unfold ownStoreSettings; split <;> simp

theorem ownSetLinkRate_wellMade (link divisor : Byte) (s : State) : (ownSetLinkRate link divisor s).WellMade s := by
  unfold ownSetLinkRate; repeat' split
  all_goals simp

/-- The reports that are accepted in every state. -/
theorem report_wellMade (results : State → List Byte) (s : State) : (accepted s (results s)).WellMade s := by simp

/-! ### What each command is (R169) -/

/-- A command is a request, handed by its link to an owner block that answers as one may, or an event that answers a next state
with the same queue. -/
inductive IsAnswered (c : Instr) : Prop where
  | request {k : LinkId} {code : Byte} {owner : State → Answer} (on : requestOn c = some (k, code))
      (taken : ∀ s, exec c s = takeRequest k code c owner s) (made : ∀ s, (owner s).WellMade s)
  | event (none : requestOn c = none) (answers : ∀ s, ∃ t, exec c s = .next t ∧ t.pending = s.pending)

/-- An event of the running part answers a next state, with the queue that its effect leaves. -/
theorem IsAnswered.ofEvent {c : Instr} {f : State → State} (none : requestOn c = none)
    (he : ∀ s, exec c s = whileRunning f s) (hf : ∀ s, (f s).pending = s.pending) : IsAnswered c :=
  .event none fun s => by
    rw [he, whileRunning]
    split
    · exact ⟨_, rfl, hf s⟩
    · exact ⟨_, rfl, rfl⟩

/-- So does a timer's event. -/
theorem IsAnswered.ofTimer {c : Instr} {left : State → Nat} {f : State → State} (none : requestOn c = none)
    (he : ∀ s, exec c s = whenDue left f s) (hf : ∀ s, (f s).pending = s.pending) : IsAnswered c :=
  .ofEvent none he fun s => by split; exacts [hf s, rfl]

/-- An hour tick makes the overdue check while the clock is valid (R21). -/
theorem State.hourTick_pending (s : State) :
    ({ (if s.ret.clockValid then s.overdueCheck else s) with hourLeft := 3600000 } : State).pending = s.pending := by
  dsimp only
  split
  · exact s.overdueCheck_pending
  · rfl

theorem State.stop_pending (s : State) (x : Phase) : (s.stop x).pending = s.pending := by rw [s.stop_eq]

theorem State.enterService_pending (s : State) (lost : Bool) (pins : BitVec 12) :
    (s.enterService lost pins).pending = s.pending := by rw [s.enterService_eq]

theorem execResetAssert_answers (s : State) : ∃ t, execResetAssert s = .next t ∧ t.pending = s.pending := by
  unfold execResetAssert
  split
  · exact ⟨_, rfl, s.stop_pending _⟩
  · exact ⟨_, rfl, s.stop_pending _⟩
  · exact ⟨_, rfl, rfl⟩
  · exact ⟨_, rfl, rfl⟩

theorem execPowerLoss_answers (s : State) : ∃ t, execPowerLoss s = .next t ∧ t.pending = s.pending := by
  unfold execPowerLoss
  split
  · exact ⟨_, rfl, rfl⟩
  · exact ⟨_, rfl, s.stop_pending _⟩

theorem execBackupBelowRetention_answers (s : State) :
    ∃ t, execBackupBelowRetention s = .next t ∧ t.pending = s.pending := by
  unfold execBackupBelowRetention; split <;> exact ⟨_, rfl, rfl⟩

theorem execStartUp_answers (s : State) : ∃ t, execStartUp s = .next t ∧ t.pending = s.pending := by
  unfold execStartUp; split <;> exact ⟨_, rfl, rfl⟩

theorem execStartUpComplete_answers (pins : BitVec 12) (climate : PerZone RawCounts) (loops : PerZone (BitVec 12))
    (s : State) : ∃ t, execStartUpComplete pins climate loops s = .next t ∧ t.pending = s.pending := by
  unfold execStartUpComplete
  split
  · exact ⟨_, rfl, (State.firstSamples_pending _ climate loops).trans (s.enterService_pending _ pins)⟩
  · exact ⟨_, rfl, rfl⟩
  · exact ⟨_, rfl, rfl⟩
  · exact ⟨_, rfl, rfl⟩

/-- Every command is a request with its owner block, or an event. -/
theorem exec_isAnswered (c : Instr) : IsAnswered c := by
  have links := linkUpdates_pending
  cases c with
  | enroll label cls slot => exact .request rfl (fun _ => rfl) (ownEnroll_wellMade label cls slot)
  | lookup label => exact .request rfl (fun _ => rfl) (ownLookup_wellMade label)
  | slotQuery slot => exact .request rfl (fun _ => rfl) (ownSlotQuery_wellMade slot)
  | nextLabel label => exact .request rfl (fun _ => rfl) (ownNextLabel_wellMade label)
  | place label slot => exact .request rfl (fun _ => rfl) (ownPlace_wellMade label slot)
  | relocate label slot => exact .request rfl (fun _ => rfl) (ownRelocate_wellMade label slot)
  | unbind label => exact .request rfl (fun _ => rfl) (ownUnbind_wellMade label)
  | retire label => exact .request rfl (fun _ => rfl) (ownRetire_wellMade label)
  | clearMark label mark => exact .request rfl (fun _ => rfl) (ownClearMark_wellMade label mark)
  | setClass label cls => exact .request rfl (fun _ => rfl) (ownSetClass_wellMade label cls)
  | extendDue label hours => exact .request rfl (fun _ => rfl) (ownExtendDue_wellMade label hours)
  | openManifest direction courier consignment due =>
    exact .request rfl (fun _ => rfl) (ownOpenManifest_wellMade direction courier consignment due)
  | addItem label => exact .request rfl (fun _ => rfl) (ownAddItem_wellMade label)
  | dropItem label => exact .request rfl (fun _ => rfl) (ownDropItem_wellMade label)
  | offerManifest => exact .request rfl (fun _ => rfl) ownOfferManifest_wellMade
  | cancelManifest => exact .request rfl (fun _ => rfl) ownCancelManifest_wellMade
  | readManifest => exact .request rfl (fun _ => rfl) ownReadManifest_wellMade
  | releaseManifest => exact .request rfl (fun _ => rfl) ownReleaseManifest_wellMade
  | enrolCourier entry badge code => exact .request rfl (fun _ => rfl) (ownEnrolCourier_wellMade entry badge code)
  | revokeCourier entry => exact .request rfl (fun _ => rfl) (ownRevokeCourier_wellMade entry)
  | unlockCourier entry => exact .request rfl (fun _ => rfl) (ownUnlockCourier_wellMade entry)
  | readCourier entry => exact .request rfl (fun _ => rfl) (ownReadCourier_wellMade entry)
  | setZoneMode zone mode => exact .request rfl (fun _ => rfl) (ownSetZoneMode_wellMade zone mode)
  | setBoundary boundary value => exact .request rfl (fun _ => rfl) (ownSetBoundary_wellMade boundary value)
  | setClimate => exact .request rfl (fun _ => rfl) (ownSetClimate_wellMade _ _)
  | readZone zone => exact .request rfl (fun _ => rfl) (ownReadZone_wellMade zone)
  | resetDose zone => exact .request rfl (fun _ => rfl) (ownResetDose_wellMade zone)
  | setTrim zone trimT trimH => exact .request rfl (fun _ => rfl) (ownSetTrim_wellMade zone trimT trimH)
  | setStartMode zone mode => exact .request rfl (fun _ => rfl) (ownSetStartMode_wellMade zone mode)
  | setConditioning kT kH base => exact .request rfl (fun _ => rfl) (ownSetConditioning_wellMade kT kH base)
  | readConditioning => exact .request rfl (fun _ => rfl) (report_wellMade _)
  | setLoop loop o n a policy capture => exact .request rfl (fun _ => rfl) (ownSetLoop_wellMade loop o n a policy capture)
  | loopReturn loop => exact .request rfl (fun _ => rfl) (ownLoopReturn_wellMade loop)
  | clearLoopFlags loop o h a => exact .request rfl (fun _ => rfl) (ownClearLoopFlags_wellMade loop o h a)
  | abortRelease zone => exact .request rfl (fun _ => rfl) (ownAbortRelease_wellMade zone)
  | manualRelease zone => exact .request rfl (fun _ => rfl) (ownManualRelease_wellMade zone)
  | resetAlarm zone => exact .request rfl (fun _ => rfl) (ownResetAlarm_wellMade zone)
  | bankReloaded => exact .request rfl (fun _ => rfl) ownBankReloaded_wellMade
  | setRelease scope b0 b1 b2 b3 => exact .request rfl (fun _ => rfl) (ownSetRelease_wellMade scope b0 b1 b2 b3)
  | status => exact .request rfl (fun _ => rfl) (report_wellMade _)
  | clearEvents choice => exact .request rfl (fun _ => rfl) fun s => (accepted_wellMade s _ _).mpr rfl
  | setEventEnable enables => exact .request rfl (fun _ => rfl) (ownSetEventEnable_wellMade enables)
  | setClock count => exact .request rfl (fun _ => rfl) (ownSetClock_wellMade count)
  | readClock => exact .request rfl (fun _ => rfl) (report_wellMade _)
  | setLine line level => exact .request rfl (fun _ => rfl) (ownSetLine_wellMade line level)
  | setExpect levels => exact .request rfl (fun _ => rfl) (ownSetExpect_wellMade levels)
  | setLineFunction direction line function zone =>
    exact .request rfl (fun _ => rfl) (ownSetLineFunction_wellMade direction line function zone)
  | setTimers handover release openLimit => exact .request rfl (fun _ => rfl) (ownSetTimers_wellMade handover release openLimit)
  | setClassLimit cls limit => exact .request rfl (fun _ => rfl) (ownSetClassLimit_wellMade cls limit)
  | storeSettings => exact .request rfl (fun _ => rfl) ownStoreSettings_wellMade
  | setLinkRate link divisor => exact .request rfl (fun _ => rfl) (ownSetLinkRate_wellMade link divisor)
  | identifyPart => exact .request rfl (fun _ => rfl) (report_wellMade _)
  | identify badge code => exact .request rfl (fun _ => rfl) (ownIdentify_wellMade badge code)
  | declare consignment caseT caseH => exact .request rfl (fun _ => rfl) (ownDeclare_wellMade consignment caseT caseH)
  | deposit label => exact .request rfl (fun _ => rfl) (ownDeposit_wellMade label)
  | accept label => exact .request rfl (fun _ => rfl) (ownChoose_wellMade label .accepted)
  | decline label => exact .request rfl (fun _ => rfl) (ownChoose_wellMade label .declined)
  | view => exact .request rfl (fun _ => rfl) ownView_wellMade
  | finish => exact .request rfl (fun _ => rfl) ownFinish_wellMade
  | leave => exact .request rfl (fun _ => rfl) ownLeave_wellMade
  | hatchStatus => exact .request rfl (fun _ => rfl) (report_wellMade _)
  | unknownRequest k code ps =>
    exact .ofEvent rfl (fun _ => rfl) fun s => by split; exacts [rfl, (links s k).frameCompletes rfl code ps]
  | frameDiscard k => exact .ofEvent rfl (fun _ => rfl) fun s => (links s k).discardIf rfl _
  | frameGapTimeout k => exact .ofTimer rfl (fun _ => rfl) fun s => (links s k).discardIf rfl _
  | responseSent k => exact .ofEvent rfl (fun _ => rfl) fun s => (links s k).responseEnds rfl
  | handoverTimerExpiry => exact .ofEvent rfl (fun _ => rfl) State.handoverExpiry_pending
  | releaseTimerExpiry => exact .ofEvent rfl (fun _ => rfl) State.releaseExpiry_pending
  | hatchOpenLimitReached => exact .ofEvent rfl (fun _ => rfl) State.openLimitReached_pending
  | verificationWindowExpiry z => exact .ofEvent rfl (fun _ => rfl) fun s => s.windowExpiry_pending z
  | countdownExpiry z => exact .ofEvent rfl (fun _ => rfl) fun s => s.countdownExpiry_pending z
  | releasePulseEnd => exact .ofEvent rfl (fun _ => rfl) State.pulseEnd_pending
  | climateSample z counts => exact .ofTimer rfl (fun _ => rfl) fun s => s.sampleClimate_pending z counts
  | loopSample z count => exact .ofTimer rfl (fun _ => rfl) fun s => s.sampleLoop_pending z count
  | elapsedMinuteTick => exact .ofTimer rfl (fun _ => rfl) State.minuteTick_pending
  | elapsedHourTick => exact .ofTimer rfl (fun _ => rfl) State.hourTick_pending
  | siteClockSecond => exact .event rfl fun s => ⟨_, rfl, s.clockSecond_pending⟩
  | storeWriteComplete => exact .ofEvent rfl (fun _ => rfl) State.storeComplete_pending
  | inputLineChange n level => exact .ofEvent rfl (fun _ => rfl) fun s => s.lineChange_pending n level
  | resetAssert => exact .event rfl execResetAssert_answers
  | powerLoss => exact .event rfl execPowerLoss_answers
  | startUp => exact .event rfl execStartUp_answers
  | startUpComplete pins climate loops => exact .event rfl (execStartUpComplete_answers pins climate loops)
  | backupBelowRetention => exact .event rfl execBackupBelowRetention_answers
  | characterReceived k char ok => exact .ofEvent rfl (fun _ => rfl) fun s => (links s k).character rfl char ok

/-- Settles O2: a request's owner block keeps the queue, as do the link's own answers, and so does every event. -/
theorem everyCommandAnswersAndKeepsQueue : Obligations.EveryCommandAnswersAndKeepsQueue := by
  intro c s
  cases exec_isAnswered c with
  | @request k code owner _ taken made =>
    rw [taken]
    rcases takeRequest_cases s k code c owner with ⟨-, h⟩ | h | h
    · exact ⟨_, h, (State.answered_pending ..).trans (made s).queue⟩
    · exact ⟨_, h, s.discardFrame_pending k⟩
    · exact ⟨_, h, rfl⟩
  | event _ answers => exact answers s

/-! ### What becomes of a request on its link (R167 to R169, R172) -/

/-- A request is handed to its owner block by its link. -/
theorem exec_request {c : Instr} {k : LinkId} {code : Byte} (h : requestOn c = some (k, code)) :
    ∃ owner : State → Answer, (∀ s, exec c s = takeRequest k code c owner s) ∧ ∀ s, (owner s).WellMade s := by
  cases exec_isAnswered c with
  | request on taken made =>
    cases on.symm.trans h
    exact ⟨_, taken, made⟩
  | event none _ => cases none.symm.trans h

/-- UNKNOWN_REQUEST changes nothing where no frame of the link can complete (R168, R172; log entry 1). -/
theorem execUnknownRequest_receiving {s : State} {k : LinkId} (h : (s.link k).rx ≠ .hunting) (code : Byte) (ps : List Byte) :
    execUnknownRequest k code ps s = .next s := by
  simp [execUnknownRequest, whileRunning, Link.receiving, h]

theorem execUnknownRequest_hunting {s : State} {k : LinkId} (hp : s.phase = .running) (h : (s.link k).rx = .hunting)
    (code : Byte) (ps : List Byte) : execUnknownRequest k code ps s = .next (s.frameCompletes k code ps) := by
  simp [execUnknownRequest, whileRunning, Link.receiving, h, hp]

theorem execUnknownRequest_notRunning {s : State} (h : s.phase ≠ .running) (k : LinkId) (code : Byte) (ps : List Byte) :
    execUnknownRequest k code ps s = .next s := whileRunning_notRunning h

theorem State.frameCompletes_sending {s : State} {k : LinkId} (h : (s.link k).isSending = true) (code : Byte) (ps : List Byte) :
    s.frameCompletes k code ps = s := by
  unfold State.frameCompletes
  split <;> simp_all [Link.isSending]

theorem State.frameCompletes_waiting {s : State} {k : LinkId} (h : (s.link k).request = .waiting) (code : Byte)
    (ps : List Byte) : s.frameCompletes k code ps = s.frameArrives k code ps := by
  simp only [State.frameCompletes, h]

theorem State.frameCompletes_taken {s : State} {k : LinkId} {c : Instr} (h : (s.link k).request = .taken c) (code : Byte)
    (ps : List Byte) : s.frameCompletes k code ps = s.discardFrame k := by
  simp only [State.frameCompletes, h]

theorem State.frameArrives_unknown {k : LinkId} {code : Byte} (h : k.hasCode code = false) (s : State) (ps : List Byte) :
    s.frameArrives k code ps = s.answered k code .unknownRequest [] := if_pos h

/-- Settles O3: a request is what its link makes of its owner's answer; UNKNOWN_REQUEST is a frame that completes. -/
theorem requestsOnTheirLinks : Obligations.RequestsOnTheirLinks := by
  refine ⟨fun c k code on s => ?_, fun s k code ps => ⟨fun hp hr hu => ⟨fun hw => ?_, fun c hc => ?_⟩,
    fun _ hr => execUnknownRequest_receiving hr code ps, fun hp hs => ?_, fun hp => execUnknownRequest_notRunning hp k code ps⟩⟩
  · obtain ⟨owner, taken, made⟩ := exec_request on
    simp only [taken]
    exact ⟨fun ht => ⟨_, _, _, takeRequest_taken owner ht, (made s).results⟩,
      fun hp hr c' hc hne => takeRequest_overrun hp hr hc hne, fun _ hr hc => takeRequest_receiving hr hc,
      fun _ => takeRequest_sending, takeRequest_notRunning⟩
  · refine (execUnknownRequest_hunting hp hr code ps).trans ?_
    rw [State.frameCompletes_waiting hw, State.frameArrives_unknown hu]
  · exact (execUnknownRequest_hunting hp hr code ps).trans (by rw [State.frameCompletes_taken hc])
  · by_cases hr : (s.link k).rx = .hunting
    · exact (execUnknownRequest_hunting hp hr code ps).trans (by rw [State.frameCompletes_sending hs])
    · exact execUnknownRequest_receiving hr code ps

end Sys2Proof.Machine
end

section
/-! A link's discards, responses and characters (R165 to R168, R170): an equation for each state of its receiver and its
request. -/

namespace Sys2Proof.Machine

open Host

/-! ### Writing a link -/

@[simp] theorem State.setLink_setLink (s : State) (k : LinkId) (l l' : Link) :
    (s.setLink k l).setLink k l' = s.setLink k l' := by cases k <;> rfl

theorem Link.receiving_eq_false {l : Link} (h : l.rx = .hunting) : l.receiving = false := by simp [Link.receiving, h]

theorem Link.receiving_eq_true {l : Link} (h : l.rx ≠ .hunting) : l.receiving = true := by simp [Link.receiving, h]

/-- A link that does not send waits, or holds a request TAKEN (R168). -/
theorem Link.request_of_not_sending {l : Link} (h : l.isSending = false) :
    l.request = .waiting ∨ ∃ c, l.request = .taken c := by
  cases hq : l.request with
  | waiting => exact .inl rfl
  | taken c => exact .inr ⟨c, rfl⟩
  | sending r => simp [Link.isSending, hq] at h

/-! ### Discards (R165, R167) -/

theorem State.discardFrame_onFacility (s : State) : s.discardFrame .facility =
    { s with fl := { s.fl with rx := .hunting, gapLeft := 0 }, flags := s.flags ||| EventFlag.linkFault.mask } := rfl

/-- A discard on the hatch link, which settles its rate when nothing keeps it (R165). -/
theorem State.discardFrame_onHatch (s : State) : s.discardFrame .hatch =
    { s with
      hl := { s.hl with
        rx := .hunting
        gapLeft := 0
        rate := if s.hl.isSending || s.hl.rateHeld then s.hl.rate else s.live.hatchDivisor }
      flags := s.flags ||| EventFlag.hatchLinkFault.mask } := by
  rw [State.discardFrame]
  let t := (s.setLink .hatch { s.hl with rx := .hunting, gapLeft := 0 }).raise .hatchLinkFault
  have kept : (t.hl.receiving || t.hl.isSending || t.hl.rateHeld) = (s.hl.isSending || s.hl.rateHeld) := rfl
  change t.settleHatchRate = _
  rcases t.settleHatchRate_cases with ⟨busy, h⟩ | ⟨free, h⟩
  · rw [h, kept.symm.trans busy]; rfl
  · rw [h, kept.symm.trans free]; rfl

/-- A discard of a frame on a sending link touches the receiver and the fault flag alone. -/
theorem State.discardFrame_sending {s : State} {k : LinkId} (h : (s.link k).isSending = true) :
    s.discardFrame k = (s.setLink k { s.link k with rx := .hunting, gapLeft := 0 }).raise (faultFlag k) := by
  cases k with
  | facility => rfl
  | hatch =>
    have busy : (s.hl.isSending || s.hl.rateHeld) = true := by rw [show s.hl.isSending = true from h]; rfl
    rw [s.discardFrame_onHatch, busy]
    rfl

/-- How far the discarded frame had come is forgotten. -/
theorem State.discardFrame_setReceiver (s : State) (k : LinkId) (rx : Receiver) :
    (s.setReceiver k rx).discardFrame k = s.discardFrame k := by cases k <;> rfl

/-! ### Responses (R168, R170) -/

theorem State.answered_hunting {t : State} {k : LinkId} (h : (t.link k).rx = .hunting) (code : Byte) (x : Status)
    (rs : List Byte) : t.answered k code x rs =
      t.setLink k { t.link k with request := .sending { code := code + 0x80, status := x, results := rs } } := by
  rw [State.answered, State.reply, Link.receiving_eq_false h]
  rfl

theorem State.answered_receiving {t : State} {k : LinkId} (h : (t.link k).rx ≠ .hunting) (code : Byte) (x : Status)
    (rs : List Byte) : t.answered k code x rs =
      (t.setLink k { t.link k with
        request := .sending { code := code + 0x80, status := x, results := rs }, rx := .hunting, gapLeft := 0 }).raise
        (faultFlag k) := by
  rw [State.answered, State.reply, Link.receiving_eq_true h, if_pos rfl, State.discardFrame_sending (by simp [Link.isSending])]
  simp

/-- The check byte brings the sum of the bytes before it to 0 (R166, R170). -/
theorem sum_checkByte (bs : List Byte) : (bs ++ [checkByte bs]).foldl (fun a b => a + b) 0 = 0 := by
  simp only [List.foldl_append, List.foldl_cons, List.foldl_nil, checkByte]
  exact BitVec.add_right_neg _

theorem be16_value {n : Nat} (h : n < 65536) : 256 * (byteOf (n / 256)).toNat + (byteOf n).toNat = n := by
  simp only [byteOf, BitVec.toNat_ofNat]; omega

/-- Settles O4: a response by whether a frame is in reception, a discard by the link, a frame by its check byte. -/
theorem responsesAndDiscards : Obligations.ResponsesAndDiscards := by
  refine ⟨fun t k code x rs => ⟨fun h => State.answered_hunting h code x rs, fun h => State.answered_receiving h code x rs⟩,
    fun s => ⟨s.discardFrame_onFacility, s.discardFrame_onHatch⟩, fun r hr => ?_⟩
  exact ⟨_, _, _, rfl, be16_value (by omega), sum_checkByte _⟩

/-! ### Characters (R166, R167) -/

theorem exec_characterReceived {s : State} (h : s.phase = .running) (k : LinkId) (c : Byte) (ok : Bool) :
    exec (.characterReceived k c ok) s = .next (s.character k c ok) :=
  whileRunning_running (f := fun s => s.character k c ok) h

theorem State.character_sending {s : State} {k : LinkId} (h : (s.link k).isSending = true) (c : Byte) (ok : Bool) :
    s.character k c ok = s := if_pos h

/-- A character with a right stop bit is the receiver's to take. -/
theorem State.character_right {s : State} {k : LinkId} (h : (s.link k).isSending = false) (c : Byte) :
    s.character k c true = s.takeCharacter k c := by simp [State.character, h]

/-- A wrong stop bit discards the frame in reception, and while hunting the character alone. -/
theorem State.character_wrong {s : State} {k : LinkId} (h : (s.link k).isSending = false) (c : Byte) :
    s.character k c false = if (s.link k).receiving then s.discardFrame k else s := by simp [State.character, h]

theorem State.takeCharacter_hunting {s : State} {k : LinkId} (h : (s.link k).rx = .hunting) (c : Byte) :
    s.takeCharacter k c = if c = 0xA5 then s.setReceiver k .awaitLength else s := by
  simp only [State.takeCharacter, h]; rfl

theorem State.takeCharacter_length {s : State} {k : LinkId} (h : (s.link k).rx = .awaitLength) (c : Byte) :
    s.takeCharacter k c =
      if c.toNat = 0 ∨ 200 < c.toNat then s.discardFrame k else s.setReceiver k (.body c.toNat []) := by
  simp only [State.takeCharacter, h]

theorem State.takeCharacter_body {s : State} {k : LinkId} {n : Nat} {taken : List Byte} (h : (s.link k).rx = .body n taken)
    (hl : taken.length < n) (c : Byte) : s.takeCharacter k c = s.setReceiver k (.body n (taken ++ [c])) := by
  have short : (taken ++ [c]).length ≠ n + 1 := by simp; omega
  simp only [State.takeCharacter, h, if_neg short]

theorem State.takeCharacter_last {s : State} {k : LinkId} {n : Nat} {taken : List Byte} (h : (s.link k).rx = .body n taken)
    (hl : taken.length = n) (c : Byte) : s.takeCharacter k c = s.checkFrame k n (taken ++ [c]) := by
  have full : (taken ++ [c]).length = n + 1 := by simp [hl]
  simp only [State.takeCharacter, h, if_pos full]

theorem State.checkFrame_wrongSum {s : State} {k : LinkId} {n : Nat} {taken : List Byte} (h : frameSum n taken ≠ 0) :
    s.checkFrame k n taken = s.discardFrame k := if_pos h

/-- A whole frame beside a request that is unanswered is an overrun (R168). -/
theorem State.checkFrame_taken {s : State} {k : LinkId} {c : Instr} (h : (s.link k).request = .taken c) (n : Nat)
    (taken : List Byte) : s.checkFrame k n taken = s.discardFrame k := by
  simp only [State.checkFrame, h]
  repeat' split
  all_goals rfl

/-- A whole frame on a link that waits completes (R167). -/
theorem State.checkFrame_waiting {s : State} {k : LinkId} {n : Nat} {code check : Byte} {ps : List Byte}
    (h : (s.link k).request = .waiting) (hsum : frameSum n (code :: ps ++ [check]) = 0) :
    s.checkFrame k n (code :: ps ++ [check]) = (s.endReception k).frameArrives k code ps := by
  have whole : (code :: ps ++ [check]).dropLast = code :: ps := List.dropLast_concat
  rw [State.checkFrame, if_neg (not_not.mpr hsum), whole]
  simp only [h]
  exact State.frameCompletes_waiting (by simpa [State.endReception] using h) code ps

theorem exec_frameDiscard {s : State} (h : s.phase = .running) (k : LinkId) :
    exec (.frameDiscard k) s = .next (if (s.link k).receiving then s.discardFrame k else s) :=
  whileRunning_running (f := fun s => if (s.link k).receiving then s.discardFrame k else s) h

theorem exec_frameGapTimeout {s : State} (h : s.phase = .running) (k : LinkId) : exec (.frameGapTimeout k) s =
    .next (if (s.link k).gapLeft = 0 then (if (s.link k).receiving then s.discardFrame k else s) else s) :=
  whileRunning_running
    (f := fun s => if (s.link k).gapLeft = 0 then (if (s.link k).receiving then s.discardFrame k else s) else s) h

/-- Settles O5: each character by the link's receiver, each discard and gap by whether a frame is in reception. -/
theorem charactersAreReceived : Obligations.CharactersAreReceived := by
  intro s k c hp
  simp only [exec_characterReceived hp, exec_frameDiscard hp, exec_frameGapTimeout hp]
  refine ⟨fun hs ok => by rw [State.character_sending hs], fun hs => ?_, fun hr => ?_, fun hr => ?_⟩
  · simp only [State.character_right hs, State.character_wrong hs]
    refine ⟨fun hr => ?_, fun hr hc => ?_, fun hr hc => ?_, fun hr => ?_, fun hr hc => ?_, fun hr h1 h200 => ?_,
      fun n taken hr hl => ?_, fun n taken hr hl hbad => ?_⟩
    · simp [Link.receiving_eq_false hr]
    · rw [State.takeCharacter_hunting hr, if_neg hc]
    · rw [State.takeCharacter_hunting hr, if_pos hc]; rfl
    · simp [Link.receiving_eq_true hr]
    · rw [State.takeCharacter_length hr, if_pos hc]
    · rw [State.takeCharacter_length hr, if_neg (by omega)]; rfl
    · rw [State.takeCharacter_body hr hl]; rfl
    · rw [State.takeCharacter_last hr hl]
      rcases hbad with hsum | hq
      · rw [State.checkFrame_wrongSum hsum]
      · obtain ⟨c', hc'⟩ := (Link.request_of_not_sending hs).resolve_left hq
        rw [State.checkFrame_taken hc']
  · rw [Link.receiving_eq_true hr]
    exact ⟨rfl, fun h0 => by rw [if_pos h0]; rfl, fun h0 => by rw [if_neg h0]⟩
  · simp [Link.receiving_eq_false hr]

/-! ### The end of a response, and the rates (R165, R168) -/

theorem exec_responseSent {s : State} (h : s.phase = .running) (k : LinkId) :
    exec (.responseSent k) s = .next (s.responseEnds k) :=
  whileRunning_running (f := fun s => s.responseEnds k) h

theorem Link.isSending_iff (l : Link) : l.isSending = true ↔ ∃ r, l.request = .sending r := by
  cases h : l.request <;> simp [Link.isSending, h]

theorem State.settleHatchRate_eq (s : State) : s.settleHatchRate =
    { s with
      hl := { s.hl with
        rate := if s.hl.rx = .hunting ∧ s.hl.isSending = false ∧ s.hl.rateHeld = false then s.live.hatchDivisor
          else s.hl.rate } } := by
  rcases s.settleHatchRate_cases with ⟨busy, h⟩ | ⟨free, h⟩
  · rw [h, if_neg]
    rintro ⟨hr, hs, hh⟩
    simp [Link.receiving_eq_false hr, hs, hh] at busy
  · rw [h, if_pos]
    simpa [Link.receiving, and_assoc] using free

/-- Settles O7: the end of a response by whether one is being sent, SET_LINK_RATE by the link it names. -/
theorem linkRatesApplyWhenQuiet : Obligations.LinkRatesApplyWhenQuiet := by
  refine ⟨fun s k hp => ?_, fun s k => (s.link k).isSending_iff, fun s => ⟨rfl, rfl⟩, fun d => rfl,
    fun s link divisor htake => ⟨fun h => ?_, fun h => ?_, fun h => ?_⟩⟩
  · rw [exec_responseSent hp]
    exact ⟨fun h => by rw [State.responseEnds, if_pos h], fun h => by rw [State.responseEnds, if_neg (by simp [h])]⟩
  · refine takeRequest_refused htake ?_
    unfold ownSetLinkRate
    split
    · next h0 => omega
    · next h1 => omega
    · rfl
  · subst h; exact judged_storeBusy htake rfl
  · subst h
    refine judged_storeBusy htake ?_
    rw [← State.settleHatchRate_eq { s with live := { s.live with hatchDivisor := divisor } }]
    rfl

end Sys2Proof.Machine
end

section
/-! The frame of a request, both ways (R166, R169, R173): what its code and parameters spell, and how they are written. Each
field is read by its width and its bytes; a request is its fields one after the other. -/

namespace Sys2Proof.Machine

open Host

/-! ### What is written is read back (R173) -/

theorem be24_join (n : BitVec 24) : byteOf (n.toNat / 65536) ++ byteOf (n.toNat / 256) ++ byteOf n.toNat = n := by
  apply BitVec.eq_of_toNat_eq
  have := n.isLt
  simp only [byteOf, BitVec.toNat_append, BitVec.toNat_ofNat, Nat.shiftLeft_eq]
  rw [← Nat.mul_comm (2 ^ 8), ← Nat.two_pow_add_eq_or_of_lt (by omega), ← Nat.mul_comm (2 ^ 8),
    ← Nat.two_pow_add_eq_or_of_lt (by omega)]
  omega

theorem be32_join (n : BitVec 32) :
    byteOf (n.toNat / 16777216) ++ byteOf (n.toNat / 65536) ++ byteOf (n.toNat / 256) ++ byteOf n.toNat = n := by
  apply BitVec.eq_of_toNat_eq
  have := n.isLt
  simp only [byteOf, BitVec.toNat_append, BitVec.toNat_ofNat, Nat.shiftLeft_eq]
  rw [← Nat.mul_comm (2 ^ 8), ← Nat.two_pow_add_eq_or_of_lt (by omega), ← Nat.mul_comm (2 ^ 8),
    ← Nat.two_pow_add_eq_or_of_lt (by omega), ← Nat.mul_comm (2 ^ 8), ← Nat.two_pow_add_eq_or_of_lt (by omega)]
  omega

theorem be16_of_join (a b : Byte) : be16 (a ++ b).toNat = [a, b] := by
  have ha := a.isLt
  have hb := b.isLt
  simp only [be16, byteOf, List.cons.injEq, and_true, BitVec.toNat_append, Nat.shiftLeft_eq]
  rw [← Nat.mul_comm (2 ^ 8), ← Nat.two_pow_add_eq_or_of_lt (by omega)]
  constructor <;> (apply BitVec.eq_of_toNat_eq; rw [BitVec.toNat_ofNat]; omega)

theorem be24_of_join (a b c : Byte) : be24 (a ++ b ++ c).toNat = [a, b, c] := by
  have ha := a.isLt
  have hb := b.isLt
  have hc := c.isLt
  simp only [be24, byteOf, List.cons.injEq, and_true, BitVec.toNat_append, Nat.shiftLeft_eq]
  rw [← Nat.mul_comm (2 ^ 8), ← Nat.two_pow_add_eq_or_of_lt (by omega), ← Nat.mul_comm (2 ^ 8),
    ← Nat.two_pow_add_eq_or_of_lt (by omega)]
  refine ⟨?_, ?_, ?_⟩ <;> (apply BitVec.eq_of_toNat_eq; rw [BitVec.toNat_ofNat]; omega)

theorem be32_of_join (a b c d : Byte) : be32 (a ++ b ++ c ++ d).toNat = [a, b, c, d] := by
  have ha := a.isLt
  have hb := b.isLt
  have hc := c.isLt
  have hd := d.isLt
  simp only [be32, byteOf, List.cons.injEq, and_true, BitVec.toNat_append, Nat.shiftLeft_eq]
  rw [← Nat.mul_comm (2 ^ 8), ← Nat.two_pow_add_eq_or_of_lt (by omega), ← Nat.mul_comm (2 ^ 8),
    ← Nat.two_pow_add_eq_or_of_lt (by omega), ← Nat.mul_comm (2 ^ 8), ← Nat.two_pow_add_eq_or_of_lt (by omega)]
  refine ⟨?_, ?_, ?_, ?_⟩ <;> (apply BitVec.eq_of_toNat_eq; rw [BitVec.toNat_ofNat]; omega)

/-- A reader takes back what was written of its field, and leaves what stands after it. -/
def ReadsBack {α : Type} (p : List Byte → Parsed α) (e : α → List Byte) : Prop :=
  ∀ a rest, p (e a ++ rest) = some (a, rest)

/-- One byte as a field. -/
def byteField (b : Byte) : List Byte := [b]

/-- A yes or no as a field. -/
def boolField (b : Bool) : List Byte := [yesNo b]

/-- A number as a field of two bytes. -/
def word16Field (n : BitVec 16) : List Byte := be16 n.toNat

/-- A number as a field of three bytes. -/
def word24Field (n : BitVec 24) : List Byte := be24 n.toNat

/-- A number as a field of four bytes. -/
def word32Field (n : BitVec 32) : List Byte := be32 n.toNat

theorem readByte_back : ReadsBack readByte byteField := fun _ _ => rfl

theorem read16_back : ReadsBack read16 word16Field := read16_be16

theorem read24_back : ReadsBack read24 word24Field := fun n rest => by
  simp only [word24Field, be24, List.cons_append, List.nil_append, read24, be24_join]

theorem read32_back : ReadsBack read32 word32Field := fun n rest => by
  simp only [word32Field, be32, List.cons_append, List.nil_append, read32, be32_join]

theorem readLabel_back : ReadsBack readLabel Vector.toList := by
  rintro ⟨⟨bytes⟩, h⟩ rest
  match bytes, h with
  | [a, b, c, d, e, f, g, x], _ => rfl

theorem readCode_back : ReadsBack readCode Vector.toList := by
  rintro ⟨⟨bytes⟩, h⟩ rest
  match bytes, h with
  | [a, b, c, d, e, f], _ => rfl

theorem readBool_back : ReadsBack readBool boolField := fun b rest => by cases b <;> rfl

/-- A case value with its presence bit is read back as it was given (R173). -/
theorem presentIf_yesNo (t h : Option (BitVec 16)) :
    presentIf (yesNo t.isSome + 2 * yesNo h.isSome) 0 (t.getD 0) = t ∧
      presentIf (yesNo t.isSome + 2 * yesNo h.isSome) 1 (h.getD 0) = h := by
  cases t <;> cases h <;> simp [presentIf, yesNo]

section
variable {α β γ : Type} {p : List Byte → Parsed α} {q : List Byte → Parsed β} {r : List Byte → Parsed γ}
  {ea : α → List Byte} {eb : β → List Byte} {ec : γ → List Byte}

theorem ReadsBack.one (hp : ReadsBack p ea) (f : α → Instr) (a : α) : oneField p f (ea a) = some (f a) := by
  have := hp a []
  rw [List.append_nil] at this
  rw [oneField, this]

theorem ReadsBack.two (hp : ReadsBack p ea) (hq : ReadsBack q eb) (f : α → β → Instr) (a : α) (b : β) :
    twoFields p q f (ea a ++ eb b) = some (f a b) := by
  rw [twoFields, hp a]; exact hq.one (f a) b

theorem ReadsBack.three (hp : ReadsBack p ea) (hq : ReadsBack q eb) (hr : ReadsBack r ec) (f : α → β → γ → Instr) (a : α)
    (b : β) (c : γ) : threeFields p q r f (ea a ++ (eb b ++ ec c)) = some (f a b c) := by
  rw [threeFields, hp a]; exact hq.two hr (f a) b c

end

/-! The requests of more than three fields, and DECLARE, whose values depend on its presence byte. -/

theorem readOpenManifest_back (d e : Byte) (n hours : BitVec 16) :
    readOpenManifest (byteField d ++ (byteField e ++ (word16Field n ++ word16Field hours))) =
      some (.openManifest d e n hours) := by
  rw [readOpenManifest, readByte_back d]
  exact readByte_back.three read16_back read16_back (.openManifest d) e n hours

theorem readSetClimate_back (z period stale : Byte) (rh : BitVec 16) (rhBand : Byte) (t : BitVec 16) (tBand recovery : Byte)
    (alert exposure : BitVec 24) :
    readSetClimate (byteField z ++ (byteField period ++ (byteField stale ++ (word16Field rh ++ (byteField rhBand ++
      (word16Field t ++ (byteField tBand ++ (byteField recovery ++ (word24Field alert ++ word24Field exposure))))))))) =
      some (.setClimate z period stale rh rhBand t tBand recovery alert exposure) := by
  simp only [readSetClimate, readByte_back _ _, read16_back _ _, Option.bind_eq_bind, Option.bind_some]
  exact readByte_back.three read24_back read24_back (.setClimate z period stale rh rhBand t tBand) recovery alert exposure

theorem readSetLoop_back (z : Byte) (o n a : BitVec 16) (policy capture : Byte) :
    readSetLoop (byteField z ++ (word16Field o ++ (word16Field n ++ (word16Field a ++ (byteField policy ++
      byteField capture))))) = some (.setLoop z o n a policy capture) := by
  simp only [readSetLoop, readByte_back _ _, read16_back _ _, Option.bind_eq_bind, Option.bind_some]
  exact read16_back.three readByte_back readByte_back (.setLoop z o n) a policy capture

theorem readClearLoopFlags_back (z : Byte) (o s a : Bool) :
    readClearLoopFlags (byteField z ++ (boolField o ++ (boolField s ++ boolField a))) = some (.clearLoopFlags z o s a) := by
  rw [readClearLoopFlags, readByte_back z]
  exact readBool_back.three readBool_back readBool_back (.clearLoopFlags z) o s a

theorem readSetRelease_back (scope b0 b1 b2 b3 : Byte) :
    readSetRelease (byteField scope ++ (byteField b0 ++ (byteField b1 ++ (byteField b2 ++ byteField b3)))) =
      some (.setRelease scope b0 b1 b2 b3) := by
  simp only [readSetRelease, readByte_back _ _, Option.bind_eq_bind, Option.bind_some]
  exact readByte_back.three readByte_back readByte_back (.setRelease scope b0) b1 b2 b3

theorem readSetLineFunction_back (d n f z : Byte) :
    readSetLineFunction (byteField d ++ (byteField n ++ (byteField f ++ byteField z))) = some (.setLineFunction d n f z) := by
  rw [readSetLineFunction, readByte_back d]
  exact readByte_back.three readByte_back readByte_back (.setLineFunction d) n f z

theorem readDeclare_back (n : BitVec 16) (t h : Option (BitVec 16)) :
    readDeclare (word16Field n ++ (byteField (yesNo t.isSome + 2 * yesNo h.isSome) ++
      (word16Field (t.getD 0) ++ word16Field (h.getD 0)))) = some (.declare n t h) := by
  obtain ⟨ht, hh⟩ := presentIf_yesNo t h
  have rest := readByte_back.three read16_back read16_back
    (fun presence t h => .declare n (presentIf presence 0 t) (presentIf presence 1 h))
    (yesNo t.isSome + 2 * yesNo h.isSome) (t.getD 0) (h.getD 0)
  rw [ht, hh] at rest
  rw [readDeclare, read16_back n]
  exact rest

/-- A request's code and parameters spell it (R169, R173): the fields of its row are read back one by one. -/
theorem requestOf_paramBytes {c : Instr} {k : LinkId} {code : Byte} (h : requestOn c = some (k, code)) :
    requestOf code (paramBytes c) = some c := by
  have byte := readByte_back
  have word := read16_back
  have wide := read24_back
  have label := readLabel_back
  have digits := readCode_back
  have yes := readBool_back
  cases c <;> cases h
  case enroll l cls slot => exact (congrArg _ (List.append_assoc ..)).trans (label.three byte word .enroll l cls slot)
  case lookup l => exact label.one .lookup l
  case slotQuery slot => exact word.one .slotQuery slot
  case nextLabel l => exact label.one .nextLabel l
  case place l slot => exact label.two word .place l slot
  case relocate l slot => exact label.two word .relocate l slot
  case unbind l => exact label.one .unbind l
  case retire l => exact label.one .retire l
  case clearMark l mark => exact label.two byte .clearMark l mark
  case setClass l cls => exact label.two byte .setClass l cls
  case extendDue l hours => exact label.two word .extendDue l hours
  case openManifest d e n hours => exact readOpenManifest_back d e n hours
  case addItem l => exact label.one .addItem l
  case dropItem l => exact label.one .dropItem l
  case enrolCourier e badge code => exact byte.three wide digits .enrolCourier e badge code
  case revokeCourier e => exact byte.one .revokeCourier e
  case unlockCourier e => exact byte.one .unlockCourier e
  case readCourier e => exact byte.one .readCourier e
  case setZoneMode z m => exact byte.two byte .setZoneMode z m
  case setBoundary b v => exact byte.two byte .setBoundary b v
  case setClimate => exact readSetClimate_back ..
  case readZone z => exact byte.one .readZone z
  case resetDose z => exact byte.one .resetDose z
  case setTrim z t h => exact byte.three byte byte .setTrim z t h
  case setStartMode z m => exact byte.two byte .setStartMode z m
  case setConditioning kT kH base => exact byte.three byte byte .setConditioning kT kH base
  case setLoop z o n a policy capture => exact readSetLoop_back z o n a policy capture
  case loopReturn z => exact byte.one .loopReturn z
  case clearLoopFlags z o s a => exact readClearLoopFlags_back z o s a
  case abortRelease z => exact byte.one .abortRelease z
  case manualRelease z => exact byte.one .manualRelease z
  case resetAlarm z => exact byte.one .resetAlarm z
  case setRelease scope b0 b1 b2 b3 => exact readSetRelease_back scope b0 b1 b2 b3
  case clearEvents choice => exact wide.one .clearEvents choice
  case setEventEnable enables => exact wide.one .setEventEnable enables
  case setClock count => exact read32_back.one .setClock count
  case setLine n level => exact byte.two yes .setLine n level
  case setExpect levels => exact word.one .setExpect levels
  case setLineFunction d n f z => exact readSetLineFunction_back d n f z
  case setTimers h r o => exact word.three word word .setTimers h r o
  case setClassLimit cls limit => exact byte.two word .setClassLimit cls limit
  case setLinkRate k d => exact byte.two byte .setLinkRate k d
  case identify badge code => exact wide.two digits .identify badge code
  case declare n t h => exact readDeclare_back n t h
  case deposit l => exact label.one .deposit l
  case accept l => exact label.one .accept l
  case decline l => exact label.one .decline l
  all_goals rfl

/-! ### What is read was written (R169, R173) -/

/-- Whatever a reader takes stands at the front as a field. -/
def TakesField {α : Type} (p : List Byte → Parsed α) (isField : List Byte → α → Prop) : Prop :=
  ∀ ps a rest, p ps = some (a, rest) → ∃ field, ps = field ++ rest ∧ isField field a

theorem readByte_takes : TakesField readByte fun field b => field = [b] := by
  intro ps a rest h
  unfold readByte at h
  split at h <;> cases h
  exact ⟨_, rfl, rfl⟩

theorem read16_takes : TakesField read16 fun field n => field = be16 n.toNat := by
  intro ps a rest h
  unfold read16 at h
  split at h <;> cases h
  exact ⟨_, rfl, (be16_of_join ..).symm⟩

theorem read24_takes : TakesField read24 fun field n => field = be24 n.toNat := by
  intro ps a rest h
  unfold read24 at h
  split at h <;> cases h
  exact ⟨_, rfl, (be24_of_join ..).symm⟩

theorem read32_takes : TakesField read32 fun field n => field = be32 n.toNat := by
  intro ps a rest h
  unfold read32 at h
  split at h <;> cases h
  exact ⟨_, rfl, (be32_of_join ..).symm⟩

theorem readLabel_takes : TakesField readLabel fun field l => field = l.toList := by
  intro ps a rest h
  unfold readLabel at h
  split at h <;> cases h
  exact ⟨_, rfl, rfl⟩

theorem readCode_takes : TakesField readCode fun field code => field = code.toList := by
  intro ps a rest h
  unfold readCode at h
  split at h <;> cases h
  exact ⟨_, rfl, rfl⟩

/-- A yes or no may be spelt by other bytes than its own (log entry 7). -/
theorem readBool_takes : TakesField readBool fun _ _ => True := by
  intro ps a rest h
  obtain ⟨⟨b, rest'⟩, hb, h⟩ := Option.map_eq_some_iff.mp h
  cases h
  obtain ⟨field, h, -⟩ := readByte_takes _ _ _ hb
  exact ⟨field, h, trivial⟩

/-- Whatever request is read, it stands in a relation to its parameters. -/
structure Spells (o : Option Instr) (ps : List Byte) (P : List Byte → Instr → Prop) : Prop where
  spelt : ∀ i, o = some i → P ps i

section
variable {α β γ : Type} {p : List Byte → Parsed α} {q : List Byte → Parsed β} {r : List Byte → Parsed γ}
  {A : List Byte → α → Prop} {B : List Byte → β → Prop} {C : List Byte → γ → Prop} {P : List Byte → Instr → Prop}

theorem Spells.none (ps : List Byte) : Spells Option.none ps P := ⟨nofun⟩

theorem Spells.noField {i : Instr} (h : P [] i) (ps : List Byte) : Spells (noField i ps) ps P := by
  refine ⟨fun i' hi => ?_⟩
  unfold Machine.noField at hi
  split at hi <;> cases hi
  · next he => rwa [List.isEmpty_iff.mp he]

theorem Spells.bind (hp : TakesField p A) {F : α × List Byte → Option Instr} {ps : List Byte}
    (h : ∀ field a rest, A field a → Spells (F (a, rest)) rest fun tail i => P (field ++ tail) i) :
    Spells (Option.bind (p ps) F) ps P := by
  refine ⟨fun i hi => ?_⟩
  obtain ⟨⟨a, rest⟩, ha, hF⟩ := Option.bind_eq_some_iff.mp hi
  obtain ⟨field, rfl, hf⟩ := hp _ _ _ ha
  exact (h field a rest hf).spelt i hF

theorem Spells.oneField (hp : TakesField p A) {f : α → Instr} (h : ∀ x a, A x a → P x (f a)) (ps : List Byte) :
    Spells (oneField p f ps) ps P := by
  refine ⟨fun i hi => ?_⟩
  unfold Machine.oneField at hi
  split at hi <;> cases hi
  · next a ha =>
    obtain ⟨field, rfl, hf⟩ := hp _ _ _ ha
    rw [List.append_nil]
    exact h field a hf

theorem Spells.twoFields (hp : TakesField p A) (hq : TakesField q B) {f : α → β → Instr}
    (h : ∀ x a y b, A x a → B y b → P (x ++ y) (f a b)) (ps : List Byte) : Spells (twoFields p q f ps) ps P :=
  .bind hp fun x a rest hx => .oneField hq (fun y b hy => h x a y b hx hy) rest

theorem Spells.threeFields (hp : TakesField p A) (hq : TakesField q B) (hr : TakesField r C) {f : α → β → γ → Instr}
    (h : ∀ x a y b z c, A x a → B y b → C z c → P (x ++ (y ++ z)) (f a b c)) (ps : List Byte) :
    Spells (threeFields p q r f ps) ps P :=
  .bind hp fun x a rest hx => .twoFields hq hr (fun y b z c hy hz => h x a y b z c hx hy hz) rest

end

/-- A request is one of a code, and its parameters are as it writes them, a yes or no and a presence byte apart. -/
def SpeltBy (code : Nat) (ps : List Byte) (i : Instr) : Prop :=
  (∃ k, requestOn i = some (k, BitVec.ofNat 8 code)) ∧ (code ∈ [0x42, 0x55, 0x61] ∨ ps = paramBytes i)

theorem Spells.openManifest (ps : List Byte) : Spells (readOpenManifest ps) ps (SpeltBy 0x20) := by
  refine .bind readByte_takes fun _ d _ hd => .threeFields readByte_takes read16_takes read16_takes
    (fun _ e _ n _ h he hn hh => ?_) _
  subst hd he hn hh
  exact ⟨⟨_, rfl⟩, .inr rfl⟩

theorem Spells.setClimate (ps : List Byte) : Spells (readSetClimate ps) ps (SpeltBy 0x32) := by
  refine .bind readByte_takes fun _ z _ hz => .bind readByte_takes fun _ period _ hp => .bind readByte_takes fun _ stale _ hs =>
    .bind read16_takes fun _ rh _ hrh => .bind readByte_takes fun _ rhBand _ hrb => .bind read16_takes fun _ t _ ht =>
    .bind readByte_takes fun _ tBand _ htb => .threeFields readByte_takes read24_takes read24_takes
      (fun _ recovery _ alert _ exposure hr ha he => ?_) _
  subst hz hp hs hrh hrb ht htb hr ha he
  exact ⟨⟨_, rfl⟩, .inr rfl⟩

theorem Spells.setLoop (ps : List Byte) : Spells (readSetLoop ps) ps (SpeltBy 0x40) := by
  refine .bind readByte_takes fun _ z _ hz => .bind read16_takes fun _ o _ ho => .bind read16_takes fun _ n _ hn =>
    .threeFields read16_takes readByte_takes readByte_takes (fun _ a _ policy _ capture ha hp hc => ?_) _
  subst hz ho hn ha hp hc
  exact ⟨⟨_, rfl⟩, .inr rfl⟩

theorem Spells.clearLoopFlags (ps : List Byte) : Spells (readClearLoopFlags ps) ps (SpeltBy 0x42) :=
  .bind readByte_takes fun _ _ _ _ => .threeFields readBool_takes readBool_takes readBool_takes
    (fun _ _ _ _ _ _ _ _ _ => ⟨⟨_, rfl⟩, .inl (by decide)⟩) _

theorem Spells.setRelease (ps : List Byte) : Spells (readSetRelease ps) ps (SpeltBy 0x47) := by
  refine .bind readByte_takes fun _ scope _ hs => .bind readByte_takes fun _ b0 _ h0 =>
    .threeFields readByte_takes readByte_takes readByte_takes (fun _ b1 _ b2 _ b3 h1 h2 h3 => ?_) _
  subst hs h0 h1 h2 h3
  exact ⟨⟨_, rfl⟩, .inr rfl⟩

theorem Spells.setLineFunction (ps : List Byte) : Spells (readSetLineFunction ps) ps (SpeltBy 0x57) := by
  refine .bind readByte_takes fun _ d _ hd => .threeFields readByte_takes readByte_takes readByte_takes
    (fun _ n _ f _ z hn hf hz => ?_) _
  subst hd hn hf hz
  exact ⟨⟨_, rfl⟩, .inr rfl⟩

theorem Spells.declare (ps : List Byte) : Spells (readDeclare ps) ps (SpeltBy 0x61) :=
  .bind read16_takes fun _ _ _ _ => .threeFields readByte_takes read16_takes read16_takes
    (fun _ _ _ _ _ _ _ _ _ => ⟨⟨_, rfl⟩, .inl (by decide)⟩) _

/-- What a code and parameters spell is a request of that code, with those parameters (R169): each row of the table reads its
fields into one request. -/
theorem requestOf_spells (code : Byte) (ps : List Byte) : Spells (requestOf code ps) ps (SpeltBy code.toNat) := by
  unfold requestOf
  generalize code.toNat = n
  split
  all_goals
    apply_rules [Spells.openManifest, Spells.setClimate, Spells.setLoop, Spells.clearLoopFlags, Spells.setRelease,
      Spells.setLineFunction, Spells.declare, Spells.none, Spells.noField, Spells.oneField, Spells.twoFields,
      Spells.threeFields, readByte_takes, read16_takes, read24_takes, read32_takes, readLabel_takes, readCode_takes,
      readBool_takes]
  all_goals
    intros
    subst_vars
    simp [SpeltBy, requestOn, paramBytes]

/-! ### The length of a request (R169) -/

/-- A reader takes so many bytes, and fails exactly when there are fewer. -/
def TakesBytes {α : Type} (p : List Byte → Parsed α) (width : Nat) : Prop :=
  ∀ ps, (p ps).map (fun x => x.2.length) = if width ≤ ps.length then some (ps.length - width) else none

theorem readByte_width : TakesBytes readByte 1 := by
  rintro (_ | ⟨_, _⟩) <;> simp [readByte]

theorem read16_width : TakesBytes read16 2 := by
  rintro (_ | ⟨_, _ | ⟨_, _⟩⟩) <;> simp [read16]

theorem read24_width : TakesBytes read24 3 := by
  rintro (_ | ⟨_, _ | ⟨_, _ | ⟨_, _⟩⟩⟩) <;> simp [read24]

theorem read32_width : TakesBytes read32 4 := by
  rintro (_ | ⟨_, _ | ⟨_, _ | ⟨_, _ | ⟨_, _⟩⟩⟩⟩) <;> simp [read32]

theorem readLabel_width : TakesBytes readLabel 8 := by
  rintro (_ | ⟨_, _ | ⟨_, _ | ⟨_, _ | ⟨_, _ | ⟨_, _ | ⟨_, _ | ⟨_, _ | ⟨_, _⟩⟩⟩⟩⟩⟩⟩⟩) <;> simp [readLabel]

theorem readCode_width : TakesBytes readCode 6 := by
  rintro (_ | ⟨_, _ | ⟨_, _ | ⟨_, _ | ⟨_, _ | ⟨_, _ | ⟨_, _⟩⟩⟩⟩⟩⟩) <;> simp [readCode]

theorem readBool_width : TakesBytes readBool 1 := by
  rintro (_ | ⟨_, _⟩) <;> simp [readBool, readByte]

/-- A request is read from parameters of one length, and from all of that length. -/
structure ReadsLength (R : List Byte → Option Instr) (width : Nat) : Prop where
  isSome_eq : ∀ ps, (R ps).isSome = decide (ps.length = width)

section
variable {α β γ : Type} {p : List Byte → Parsed α} {q : List Byte → Parsed β} {r : List Byte → Parsed γ} {a b c : Nat}

theorem ReadsLength.noField (i : Instr) : ReadsLength (noField i) 0 := by
  constructor
  rintro (_ | ⟨_, _⟩) <;> simp [Machine.noField]

theorem ReadsLength.bind (hp : TakesBytes p a) {F : α × List Byte → Option Instr}
    (h : ∀ x, ReadsLength (fun rest => F (x, rest)) b) : ReadsLength (fun ps => Option.bind (p ps) F) (a + b) := by
  refine ⟨fun ps => ?_⟩
  have taken := hp ps
  cases hx : p ps with
  | none =>
    rw [hx] at taken
    split at taken
    · cases taken
    · simp; omega
  | some x =>
    obtain ⟨x, rest⟩ := x
    rw [hx] at taken
    split at taken
    · have : rest.length = ps.length - a := Option.some.inj taken
      rw [Option.bind_some, (h x).isSome_eq rest, this]
      exact decide_eq_decide.mpr (by omega)
    · cases taken

theorem ReadsLength.oneField (hp : TakesBytes p a) (f : α → Instr) : ReadsLength (oneField p f) a := by
  refine ⟨fun ps => ?_⟩
  have taken := hp ps
  unfold Machine.oneField
  cases hx : p ps with
  | none => rw [hx] at taken; simp_all; omega
  | some x =>
    obtain ⟨x, rest⟩ := x
    rw [hx] at taken
    cases rest <;> simp_all <;> omega

theorem ReadsLength.twoFields (hp : TakesBytes p a) (hq : TakesBytes q b) (f : α → β → Instr) :
    ReadsLength (twoFields p q f) (a + b) := .bind hp fun x => .oneField hq (f x)

theorem ReadsLength.threeFields (hp : TakesBytes p a) (hq : TakesBytes q b) (hr : TakesBytes r c) (f : α → β → γ → Instr) :
    ReadsLength (threeFields p q r f) (a + (b + c)) := .bind hp fun x => .twoFields hq hr (f x)

end

theorem ReadsLength.openManifest : ReadsLength readOpenManifest (1 + (1 + (2 + 2))) :=
  .bind readByte_width fun d => .threeFields readByte_width read16_width read16_width (.openManifest d)

theorem ReadsLength.setClimate : ReadsLength readSetClimate (1 + (1 + (1 + (2 + (1 + (2 + (1 + (1 + (3 + 3))))))))) :=
  .bind readByte_width fun z => .bind readByte_width fun period => .bind readByte_width fun stale => .bind read16_width fun rh =>
    .bind readByte_width fun rhBand => .bind read16_width fun t => .bind readByte_width fun tBand =>
    .threeFields readByte_width read24_width read24_width (.setClimate z period stale rh rhBand t tBand)

theorem ReadsLength.setLoop : ReadsLength readSetLoop (1 + (2 + (2 + (2 + (1 + 1))))) :=
  .bind readByte_width fun z => .bind read16_width fun o => .bind read16_width fun n =>
    .threeFields read16_width readByte_width readByte_width (.setLoop z o n)

theorem ReadsLength.clearLoopFlags : ReadsLength readClearLoopFlags (1 + (1 + (1 + 1))) :=
  .bind readByte_width fun z => .threeFields readBool_width readBool_width readBool_width (.clearLoopFlags z)

theorem ReadsLength.setRelease : ReadsLength readSetRelease (1 + (1 + (1 + (1 + 1)))) :=
  .bind readByte_width fun scope => .bind readByte_width fun b0 =>
    .threeFields readByte_width readByte_width readByte_width (.setRelease scope b0)

theorem ReadsLength.setLineFunction : ReadsLength readSetLineFunction (1 + (1 + (1 + 1))) :=
  .bind readByte_width fun d => .threeFields readByte_width readByte_width readByte_width (.setLineFunction d)

theorem ReadsLength.declare : ReadsLength readDeclare (2 + (1 + (2 + 2))) :=
  .bind read16_width fun n => .threeFields readByte_width read16_width read16_width
    fun presence t h => .declare n (presentIf presence 0 t) (presentIf presence 1 h)

/-- Two parameter lists of which one spells a request of a code: the other does when it is as long. -/
theorem ReadsLength.isSome_iff {R : List Byte → Option Instr} {width : Nat} (h : ReadsLength R width) {ps qs : List Byte}
    (hp : (R ps).isSome = true) : (R qs).isSome = true ↔ qs.length = ps.length := by
  rw [h.isSome_eq, decide_eq_true_eq] at hp
  rw [h.isSome_eq, decide_eq_true_eq, hp]

/-- Whether parameters spell a request of a code is a matter of their length (R169): each row of the table has one. -/
theorem requestOf_isSome_iff {code : Byte} {ps qs : List Byte} (h : (requestOf code ps).isSome = true) :
    (requestOf code qs).isSome = true ↔ qs.length = ps.length := by
  revert h
  unfold requestOf
  generalize code.toNat = n
  split
  case h_62 => intro h; cases h
  all_goals
    apply_rules [ReadsLength.isSome_iff, ReadsLength.openManifest, ReadsLength.setClimate, ReadsLength.setLoop,
      ReadsLength.clearLoopFlags, ReadsLength.setRelease, ReadsLength.setLineFunction, ReadsLength.declare,
      ReadsLength.noField, ReadsLength.oneField, ReadsLength.twoFields, ReadsLength.threeFields, readByte_width, read16_width,
      read24_width, read32_width, readLabel_width, readCode_width, readBool_width]

/-- Each request code of the table spells a request with the right number of parameters (R169). -/
theorem exists_requestOf {k : LinkId} {code : Byte} (h : k.hasCode code = true) : ∃ ps, (requestOf code ps).isSome = true := by
  have rows : ∀ n ∈ LinkId.facility.codes ++ LinkId.hatch.codes, ∃ length ∈ List.range 17,
      (requestOf (BitVec.ofNat 8 n) (List.replicate length 0)).isSome = true := by decide
  have mem : code.toNat ∈ LinkId.facility.codes ++ LinkId.hatch.codes := by
    have : code.toNat ∈ k.codes := by simpa [LinkId.hasCode] using h
    cases k <;> simp [this]
  obtain ⟨length, -, read⟩ := rows _ mem
  rw [BitVec.ofNat_toNat, BitVec.setWidth_eq] at read
  exact ⟨_, read⟩

/-- A request that is read is one of its code. -/
theorem requestOn_of_spelt {code : Byte} {ps : List Byte} {c : Instr} (h : requestOf code ps = some c) :
    ∃ k, requestOn c = some (k, code) := by
  obtain ⟨⟨k, on⟩, -⟩ := (requestOf_spells code ps).spelt c h
  rw [BitVec.ofNat_toNat, BitVec.setWidth_eq] at on
  exact ⟨k, on⟩

/-- Parameters spell a request of a code exactly when they are as long as its own. -/
theorem requestOf_isSome_iff_length {c : Instr} {k : LinkId} {code : Byte} (on : requestOn c = some (k, code))
    (ps : List Byte) : (requestOf code ps).isSome = true ↔ ps.length = (paramBytes c).length :=
  requestOf_isSome_iff (by rw [requestOf_paramBytes on]; rfl)

theorem hasCode_of_requestOn {c : Instr} {k : LinkId} {code : Byte} (h : requestOn c = some (k, code)) :
    k.hasCode code = true := by
  cases c <;> cases h <;> rfl

/-- A code that a link has is a code of a request of that link alone (R169). -/
theorem exists_request_of_hasCode {k : LinkId} {code : Byte} (h : k.hasCode code = true) :
    ∃ c, requestOn c = some (k, code) := by
  obtain ⟨ps, hps⟩ := exists_requestOf h
  obtain ⟨c, hc⟩ := Option.isSome_iff_exists.mp hps
  obtain ⟨k', on⟩ := requestOn_of_spelt hc
  have same : k = k' := (eq_linkOfCode h).trans (eq_linkOfCode (hasCode_of_requestOn on)).symm
  exact ⟨c, same ▸ on⟩

end Sys2Proof.Machine
end

section
/-! A whole frame, sent character by character to a hunting link (R165 to R169). -/

namespace Sys2Proof.Machine

open Host

theorem takeAll_cons_character {s : State} (hp : s.phase = .running) (k : LinkId) (c : Byte) (rest : List Instr) :
    takeAll (.characterReceived k c true :: rest) s = takeAll rest (s.character k c true) := by
  rw [takeAll, exec_characterReceived hp]

theorem State.setReceiver_link (s : State) (k : LinkId) (rx : Receiver) :
    (s.setReceiver k rx).link k = { s.link k with rx := rx, gapLeft := gapLimit } := s.setLink_link_same k _

theorem State.setReceiver_isSending (s : State) (k : LinkId) (rx : Receiver) :
    ((s.setReceiver k rx).link k).isSending = (s.link k).isSending := by rw [s.setReceiver_link]; rfl

theorem State.setReceiver_setReceiver (s : State) (k : LinkId) (rx rx' : Receiver) :
    (s.setReceiver k rx).setReceiver k rx' = s.setReceiver k rx' := by
  simp [State.setReceiver]

theorem State.endReception_setReceiver (s : State) (k : LinkId) (rx : Receiver) :
    (s.setReceiver k rx).endReception k = s.endReception k := by
  simp [State.setReceiver, State.endReception]

/-- The characters of a frame within its LENGTH are taken one after the other (R167). -/
theorem takeAll_body {s : State} {k : LinkId} (hp : s.phase = .running) (hs : (s.link k).isSending = false) (n : Nat)
    (rest : List Instr) : ∀ (cs taken : List Byte), taken.length + cs.length ≤ n →
    takeAll ((cs.map fun c => .characterReceived k c true) ++ rest) (s.setReceiver k (.body n taken)) =
      takeAll rest (s.setReceiver k (.body n (taken ++ cs)))
  | [], taken, _ => by rw [List.append_nil]; rfl
  | c :: cs, taken, h => by
    have running : (s.setReceiver k (.body n taken)).phase = .running := (s.setLink_phase k _).trans hp
    have quiet := (s.setReceiver_isSending k (.body n taken)).trans hs
    simp only [List.length_cons] at h
    rw [List.map_cons, List.cons_append, takeAll_cons_character running, State.character_right quiet,
      State.takeCharacter_body (by rw [s.setReceiver_link]) (by omega), s.setReceiver_setReceiver,
      takeAll_body hp hs n rest cs (taken ++ [c]) (by simp; omega), List.append_assoc]
    rfl

/-- A whole frame brings its last character to a receiver that has all the others (R166, R167). -/
theorem takeAll_frame {s : State} {k : LinkId} (hp : s.phase = .running) (hr : (s.link k).rx = .hunting)
    (hs : (s.link k).isSending = false) (code check : Byte) {ps : List Byte} (hl : ps.length ≤ 199) :
    takeAll (([0xA5, BitVec.ofNat 8 (ps.length + 1), code] ++ ps ++ [check]).map fun c => .characterReceived k c true) s =
      .next ((s.setReceiver k (.body (ps.length + 1) (code :: ps))).checkFrame k (ps.length + 1) (code :: ps ++ [check])) := by
  have length : (BitVec.ofNat 8 (ps.length + 1)).toNat = ps.length + 1 := by rw [BitVec.toNat_ofNat]; omega
  have started (rx : Receiver) : (s.setReceiver k rx).phase = .running := (s.setLink_phase k _).trans hp
  have quiet (rx : Receiver) := (s.setReceiver_isSending k rx).trans hs
  have body := takeAll_body hp hs (ps.length + 1) [.characterReceived k check true] (code :: ps) [] (by simp)
  simp only [List.map_append, List.map_cons, List.map_nil, List.cons_append, List.nil_append] at body ⊢
  rw [takeAll_cons_character hp, State.character_right hs, State.takeCharacter_hunting hr, if_pos rfl,
    takeAll_cons_character (started _), State.character_right (quiet _),
    State.takeCharacter_length (by rw [s.setReceiver_link]), length, if_neg (by omega), s.setReceiver_setReceiver, body,
    takeAll_cons_character (started _), State.character_right (quiet _),
    State.takeCharacter_last (by rw [s.setReceiver_link]) (by simp)]
  rfl

/-- A whole frame on a link that waits, as the link then answers it or holds its request TAKEN (R165, R169). -/
theorem State.frameArrives_eq {s : State} {k : LinkId} {l : Link} (code : Byte) (ps : List Byte) :
    (s.setLink k l).frameArrives k code ps =
      if k.hasCode code = false then (s.setLink k l).answered k code .unknownRequest []
      else match requestOf code ps with
        | some c => s.setLink k { l with request := .taken c, rateHeld := decide (l.rate ≠ s.divisor k) }
        | none => (s.setLink k l).answered k code .badParam [] := by
  unfold State.frameArrives
  split
  · rfl
  · cases requestOf code ps with
    | none => rfl
    | some c => simp

/-- Settles O6: the frame by its last character's check; what frames spell by the fields of each row. -/
theorem wholeFrameIsTaken : Obligations.WholeFrameIsTaken := by
  refine ⟨fun s k code check ps hp hr hl hsum => ⟨fun hw => ?_, fun c hc => ?_⟩,
    fun c k code on => ⟨hasCode_of_requestOn on, requestOf_paramBytes on⟩, fun c code ps h => ?_, fun code ps => ?_,
    fun k code h => exists_request_of_hasCode h, fun _ _ _ _ _ _ _ => rfl⟩
  · have quiet : (s.link k).isSending = false := by simp [Link.isSending, hw]
    have waits : ((s.setReceiver k (.body (ps.length + 1) (code :: ps))).link k).request = .waiting := by
      rw [s.setReceiver_link]; exact hw
    have sum : frameSum (ps.length + 1) (code :: ps ++ [check]) = 0 := by
      simpa [frameSum, byteOf] using hsum
    refine (takeAll_frame hp hr quiet code check hl).trans ?_
    rw [State.checkFrame_waiting waits sum, s.endReception_setReceiver]
    exact congrArg Outcome.next (State.frameArrives_eq code ps)
  · have quiet : (s.link k).isSending = false := by simp [Link.isSending, hc]
    refine (takeAll_frame hp hr quiet code check hl).trans ?_
    rw [State.checkFrame_taken (c := c) (by rw [s.setReceiver_link]; exact hc), State.discardFrame_setReceiver]
  · obtain ⟨k, on⟩ := requestOn_of_spelt h
    refine ⟨⟨k, on⟩, (requestOf_isSome_iff_length on ps).mp (by rw [h]; rfl), fun plain => ?_⟩
    obtain ⟨-, special | whole⟩ := (requestOf_spells code ps).spelt c h
    · exact absurd (by simpa [← BitVec.toNat_inj] using special) plain
    · exact whole
  · constructor
    · intro h c k on hl
      have read := (requestOf_isSome_iff_length on ps).mpr hl
      rw [h] at read
      cases read
    · intro h
      refine Option.eq_none_iff_forall_not_mem.mpr fun c hc => ?_
      obtain ⟨k, on⟩ := requestOn_of_spelt hc
      exact h c k on ((requestOf_isSome_iff_length on ps).mp (by rw [hc]; rfl))

end Sys2Proof.Machine
end

section
/-! The layouts of results (R173 to R178): a result is its fields one after the other, each at its width, and so each stands at
the sum of the widths before it. -/

namespace Sys2Proof.Machine

open Host

/-! ### Fields one after the other -/

/-- A number in so many bytes, the most significant first (R173). -/
def numberBytes : Nat → Nat → List Byte
  | 0, _ => []
  | width + 1, n => numberBytes width (n / 256) ++ [byteOf n]

theorem be24_eq_numberBytes (n : Nat) : be24 n = numberBytes 3 n := by
  simp [be24, numberBytes, Nat.div_div_eq_div_mul]

theorem be32_eq_numberBytes (n : Nat) : be32 n = numberBytes 4 n := by
  simp [be32, numberBytes, Nat.div_div_eq_div_mul]

theorem numberBytes_length (width n : Nat) : (numberBytes width n).length = width := by
  induction width generalizing n with
  | zero => rfl
  | succ width ih => rw [numberBytes, List.length_append, ih]; rfl

/-- What is written of a number is read back, as far as its width goes. -/
theorem foldl_numberBytes (width n : Nat) :
    (numberBytes width n).foldl (fun n b => 256 * n + b.toNat) 0 = n % 256 ^ width := by
  induction width generalizing n with
  | zero => simp [numberBytes, Nat.mod_one]
  | succ width ih =>
    rw [numberBytes, List.foldl_append, ih, List.foldl_cons, List.foldl_nil, byteOf, BitVec.toNat_ofNat, Nat.pow_succ' (m := 256),
      Nat.mod_mul]
    omega

/-- Bytes that hold the fields of a table from an offset on: wherever they stand in a result, behind so many bytes as the offset
says, each field of the table is at its place. -/
def HoldsFields (offset : Nat) (bytes : List Byte) (table : List (Nat × Nat × Nat)) : Prop :=
  ∀ before after : List Byte, before.length = offset → laidOut (before ++ bytes ++ after) table

namespace HoldsFields

theorem nil (offset : Nat) : HoldsFields offset [] [] := nofun

/-- A field, and the fields behind it. -/
theorem cons {offset width n : Nat} {field rest : List Byte} {table : List (Nat × Nat × Nat)}
    (hf : field = numberBytes width n) (h : HoldsFields (offset + width) rest table) :
    HoldsFields offset (field ++ rest) ((offset, width, n) :: table) := by
  intro before after hb
  have size : field.length = width := by rw [hf, numberBytes_length]
  rintro f (_ | ⟨_, hmem⟩)
  · rw [fieldAt, List.append_assoc, List.append_assoc, List.drop_left' hb, List.take_left' size, hf]
    exact foldl_numberBytes width n
  · have := h (before ++ field) after (by rw [List.length_append, hb, size]) f hmem
    simpa only [List.append_assoc] using this

/-- A field of one byte, and the fields behind it. -/
theorem byte {offset n : Nat} {b : Byte} {rest : List Byte} {table : List (Nat × Nat × Nat)} (hb : b = byteOf n)
    (h : HoldsFields (offset + 1) rest table) : HoldsFields offset (b :: rest) ((offset, 1, n) :: table) :=
  cons (field := [b]) (hb ▸ rfl) h

/-- A number in two bytes, and the fields behind it. -/
theorem word {offset n m : Nat} {rest : List Byte} {table : List (Nat × Nat × Nat)} (hn : m = n)
    (h : HoldsFields (offset + 2) rest table) : HoldsFields offset (be16 m ++ rest) ((offset, 2, n) :: table) :=
  cons (hn ▸ rfl) h

/-- A number in three bytes, and the fields behind it. -/
theorem triple {offset n m : Nat} {rest : List Byte} {table : List (Nat × Nat × Nat)} (hn : m = n)
    (h : HoldsFields (offset + 3) rest table) : HoldsFields offset (be24 m ++ rest) ((offset, 3, n) :: table) :=
  cons (hn ▸ be24_eq_numberBytes m) h

/-- A number in four bytes, and the fields behind it. -/
theorem quad {offset n m : Nat} {rest : List Byte} {table : List (Nat × Nat × Nat)} (hn : m = n)
    (h : HoldsFields (offset + 4) rest table) : HoldsFields offset (be32 m ++ rest) ((offset, 4, n) :: table) :=
  cons (hn ▸ be32_eq_numberBytes m) h

/-- A number in two bytes as the last field. -/
theorem lastWord {offset n m : Nat} (hn : m = n) : HoldsFields offset (be16 m) [(offset, 2, n)] := by
  have := word (rest := []) hn (nil (offset + 2))
  rwa [List.append_nil] at this

/-- The fields of a result behind its beginning. -/
theorem laidOut_behind {offset : Nat} {start bytes : List Byte} {table : List (Nat × Nat × Nat)}
    (h : HoldsFields offset bytes table) (hs : start.length = offset) : laidOut (start ++ bytes) table := by
  have := h start [] hs
  rwa [List.append_nil] at this

/-- The fields of a part of a result, behind what comes before it and before what comes after. -/
theorem laidOut_between {offset : Nat} {start bytes : List Byte} {table : List (Nat × Nat × Nat)}
    (h : HoldsFields offset bytes table) (hs : start.length = offset) (after : List Byte) :
    laidOut (start ++ bytes ++ after) table := h start after hs

end HoldsFields

theorem beS16_eq_word (i : Int) : beS16 i = be16 (signedField 2 i) := rfl

theorem beS8_eq_byte (i : Int) : beS8 i = [byteOf (signedField 1 i)] := beS8_eq i

theorem yesNo_eq (b : Bool) : yesNo b = byteOf (flagField b) := by cases b <;> rfl

/-! ### The record summary, the manifest header and the item (R89, R90, R174, R175) -/

theorem Marks.number_eq (m : Marks) :
    m.number = flagField m.exposed + 2 * flagField m.agent + 4 * flagField m.overdue + 8 * flagField m.worn := by
  obtain ⟨a, b, c, d⟩ := m
  cases a <;> cases b <;> cases c <;> cases d <;> rfl

theorem zoneNumber_eq (z : Option Zone) : zoneNumber z = z.elim 0 Zone.number := by cases z <;> rfl

/-- The custody part of a record as its summary sends it: absent outside OUT (R174). -/
def Record.custodyFields (r : Record) : Nat × Nat × Nat :=
  match r.state with
  | .out courier consignment due => (courier.val, consignment.toNat, due)
  | _ => (0, 0, 0)

/-- The hold of a record as its summary sends it: 0 outside CONDITIONING (R174). -/
def Record.holdField (r : Record) : Nat :=
  match r.state with
  | .conditioning hold => hold
  | _ => 0

/-- The record summary, field by field (R174). -/
theorem State.summary_eq (s : State) (r : Record) : s.summary r =
    r.label.toList ++ (byteOf r.cls.val :: byteOf r.state.number :: (be16 (r.home.elim 0xFFFF Fin.val) ++
      (byteOf (zoneNumber (s.location r)) :: byteOf (zoneNumber (r.home.map s.zoneOfSlot)) :: byteOf r.marks.number ::
        (be16 r.count ++ (byteOf r.custodyFields.1 :: (be16 r.custodyFields.2.1 ++ (be24 r.custodyFields.2.2 ++
          be16 r.holdField))))))) := by
  cases hs : r.state <;> cases hh : r.home <;>
    simp [State.summary, Record.custodyFields, Record.holdField, hs, hh, byteOf]

theorem State.summary_holds (s : State) (r : Record) : laidOut (s.summary r)
    [(8, 1, r.cls.val), (9, 1, r.state.number), (10, 2, r.home.elim 0xFFFF Fin.val),
      (12, 1, (s.location r).elim 0 Zone.number), (13, 1, (r.home.map s.zoneOfSlot).elim 0 Zone.number),
      (14, 1, flagField r.marks.exposed + 2 * flagField r.marks.agent + 4 * flagField r.marks.overdue
        + 8 * flagField r.marks.worn), (15, 2, r.count), (17, 1, r.custodyFields.1), (18, 2, r.custodyFields.2.1),
      (20, 3, r.custodyFields.2.2), (23, 2, r.holdField)] := by
  rw [s.summary_eq, ← zoneNumber_eq, ← zoneNumber_eq, ← Marks.number_eq]
  exact HoldsFields.laidOut_behind (.byte rfl (.byte rfl (.word rfl (.byte rfl (.byte rfl (.byte rfl (.word rfl (.byte rfl
    (.word rfl (.triple rfl (.lastWord rfl))))))))))) (Vector.length_toList ..)

theorem State.summary_length (s : State) (r : Record) : (s.summary r).length = 25 := by
  simp [s.summary_eq, be16, be24]

/-- The due hours of an OUTBOUND manifest as the header sends them, 0 of an INBOUND one (R175). -/
def Route.due : Route → Nat
  | .outbound due => due
  | .inbound _ _ => 0

/-- The case temperature of an INBOUND manifest (R175). -/
def Route.caseT : Route → Option Int
  | .outbound _ => none
  | .inbound t _ => t

/-- The case humidity of an INBOUND manifest (R175). -/
def Route.caseH : Route → Option Int
  | .outbound _ => none
  | .inbound _ h => h

theorem Route.numbers_eq (x : Route) :
    x.directionNumber = flagField (!x.isOutbound) ∧ x.originNumber = flagField (!x.isOutbound) := by
  cases x <;> exact ⟨rfl, rfl⟩

theorem Route.headerFields_eq (x : Route) : x.headerFields =
    be16 x.due ++ (byteOf (flagField x.caseT.isSome + 2 * flagField x.caseH.isSome) ::
      (be16 (signedField 2 (x.caseT.getD 0)) ++ be16 (signedField 2 (x.caseH.getD 0)))) := by
  cases x with
  | outbound due => rfl
  | inbound t h => cases t <;> cases h <;> rfl

theorem State.headerHandover_eq (s : State) (m : Manifest) : s.headerHandover m =
    if m.stage = .offered ∨ m.stage = .active then (s.handoverTimer.getD 0) / 1000 else 0 := by
  rw [State.headerHandover, secondsLeft_eq]

theorem State.headerRelease_eq (s : State) (m : Manifest) : s.headerRelease m =
    if m.stage.isOpen then 0 else (s.releaseTimer.getD 0) / 1000 := by
  rw [State.headerRelease, secondsLeft_eq]
  cases m.stage with
  | closed cause => cases cause <;> rfl
  | _ => rfl

/-- The manifest header, field by field (R175). -/
theorem State.header_eq (s : State) (m : Manifest) : s.header m =
    byteOf (manifestStateNumber (some m)) :: byteOf m.route.directionNumber :: byteOf m.route.originNumber ::
      byteOf m.courier.val :: (be16 m.consignment.toNat ++ (be16 m.route.due ++
        (byteOf (flagField m.route.caseT.isSome + 2 * flagField m.route.caseH.isSome) ::
          (be16 (signedField 2 (m.route.caseT.getD 0)) ++ (be16 (signedField 2 (m.route.caseH.getD 0)) ++
            (byteOf m.items.length :: byteOf m.stage.causeNumber ::
              (be16 (s.headerHandover m) ++ be16 (s.headerRelease m)))))))) := by
  simp [State.header, Route.headerFields_eq]

theorem State.header_holds (s : State) (m : Manifest) : HoldsFields 0 (s.header m)
    [(0, 1, manifestStateNumber (some m)), (1, 1, flagField (!m.route.isOutbound)), (2, 1, flagField (!m.route.isOutbound)),
      (3, 1, m.courier.val), (4, 2, m.consignment.toNat), (6, 2, m.route.due),
      (8, 1, flagField m.route.caseT.isSome + 2 * flagField m.route.caseH.isSome),
      (9, 2, signedField 2 (m.route.caseT.getD 0)), (11, 2, signedField 2 (m.route.caseH.getD 0)),
      (13, 1, m.items.length), (14, 1, m.stage.causeNumber), (15, 2, s.headerHandover m), (17, 2, s.headerRelease m)] := by
  obtain ⟨direction, origin⟩ := m.route.numbers_eq
  rw [s.header_eq]
  exact .byte rfl (.byte (congrArg byteOf direction) (.byte (congrArg byteOf origin) (.byte rfl (.word rfl (.word rfl
    (.byte rfl (.word rfl (.word rfl (.byte rfl (.byte rfl (.word rfl (.lastWord rfl))))))))))))

/-- What an item adds when it is RETURNED (R175). -/
def Item.returnedFields (i : Item) : Nat × Bool :=
  match i.state with
  | .returned hold other => (hold, other)
  | _ => (0, false)

theorem Item.bytes_eq (i : Item) : i.bytes =
    i.label.toList ++ (byteOf i.state.number :: (be16 i.returnedFields.1 ++ [byteOf (flagField i.returnedFields.2)])) := by
  cases hi : i.state <;> simp [Item.bytes, Item.returnedFields, hi, yesNo_eq, flagField, byteOf]

theorem Item.bytes_length (i : Item) : i.bytes.length = 12 := by simp [i.bytes_eq, be16]

/-- VIEW shows an item with its last byte 0 (R90). -/
theorem Item.viewBytes_eq (i : Item) : i.viewBytes = i.bytes.take 11 ++ [0] := by
  cases hi : i.state <;> simp [Item.viewBytes, Item.bytes, hi, be16, yesNo, List.take_append, ItemState.number,
    List.take_of_length_le]

/-- Settles O9: the summary, the header and the item by their fields. -/
theorem recordAndManifestLayout : Obligations.RecordAndManifestLayout := by
  refine ⟨fun s r => ⟨s.summary_length r, ?_, s.summary_holds r⟩, fun s m => ⟨?_, ?_⟩,
    fun i => ⟨i.bytes_length, ?_, ?_, ?_, ?_⟩⟩
  · rw [s.summary_eq]; exact List.take_left' (Vector.length_toList ..)
  · simp [s.header_eq, be16]
  · have fields := (s.header_holds m).laidOut_behind (start := []) rfl
    rw [s.headerHandover_eq, s.headerRelease_eq] at fields
    exact fields
  · rw [i.bytes_eq]; exact List.take_left' (Vector.length_toList ..)
  · rw [i.bytes_eq]
    exact HoldsFields.laidOut_behind (.byte rfl (.word rfl (.byte rfl (.nil _)))) (Vector.length_toList ..)
  · rw [i.viewBytes_eq]; exact List.take_left' (by simp [i.bytes_length])
  · rw [i.viewBytes_eq]; exact List.drop_left' (by simp [i.bytes_length])

/-! ### The zone report (R47, R108, R143, R163, R176) -/

theorem State.zonePart_eq (s : State) (z : Zone) :
    let units := s.ret.bounds.unitsOf z
    s.zonePart z = byteOf z.number :: byteOf (s.mode z).number :: byteOf (s.settings z).startMode.number ::
      byteOf (units.elim 0xFF Prod.fst) :: byteOf (units.elim 0xFF Prod.snd) ::
        (be16 (s.ret.bounds.slotsOwned z) ++ be16 (s.slotsBound z)) := by
  cases h : s.ret.bounds.unitsOf z <;> simp [State.zonePart, h, byteOf]

theorem State.zonePart_holds (s : State) (z : Zone) :
    let units := s.ret.bounds.unitsOf z
    HoldsFields 0 (s.zonePart z)
      [(0, 1, z.number), (1, 1, (s.mode z).number), (2, 1, (s.settings z).startMode.number), (3, 1, units.elim 0xFF Prod.fst),
        (4, 1, units.elim 0xFF Prod.snd), (5, 2, s.ret.bounds.slotsOwned z), (7, 2, s.slotsBound z)] := by
  dsimp only
  rw [s.zonePart_eq]
  exact .byte rfl (.byte rfl (.byte rfl (.byte rfl (.byte rfl (.word rfl (.lastWord rfl))))))

theorem State.zonePart_length (s : State) (z : Zone) : (s.zonePart z).length = 9 := by simp [s.zonePart_eq, be16]

/-- Two presence bits in one byte (R176). -/
theorem presence_eq (a b : Bool) : ((if a then 1 else 0) + (if b then 2 else 0) : Nat) = flagField a + 2 * flagField b := by
  cases a <;> cases b <;> rfl

theorem State.climatePart_eq (s : State) (z : Zone) :
    let x := (s.zones.get z).sensor
    let a := s.ret.climate.get z
    let c := (s.settings z).climate
    let reading := x.reading.getD { t := 0, rh := 0 }
    let raw := x.raw.getD { t := 0, h := 0 }
    s.climatePart z =
      (byteOf x.status.number :: byteOf (flagField x.reading.isSome + 2 * flagField x.raw.isSome) ::
        (be16 (signedField 2 reading.t) ++ (be16 (signedField 2 reading.rh) ++ (be16 raw.t.toNat ++ (be16 raw.h.toNat ++
          (byteOf x.staleCount :: (be16 x.weight ++ (be24 a.dose ++ [byteOf a.state.number])))))))) ++
      (byteOf c.period :: byteOf c.staleLimit :: (be16 (signedField 2 c.rhTarget) ++ (byteOf (signedField 1 c.rhBand) ::
        (be16 (signedField 2 c.tTarget) ++ (byteOf (signedField 1 c.tBand) :: byteOf c.recovery :: (be24 c.alert ++
          (be24 c.exposure ++
            [byteOf (signedField 1 (s.settings z).trims.t), byteOf (signedField 1 (s.settings z).trims.h)]))))))) := by
  unfold State.climatePart
  simp only [presence_eq, beS8_eq_byte, beS16_eq_word, List.append_assoc, List.cons_append, List.nil_append]

/-- What CL keeps of a zone: the sensor and the dose, behind ZN's nine bytes (R108). -/
theorem State.climatePart_holds (s : State) (z : Zone) :
    let x := (s.zones.get z).sensor
    let a := s.ret.climate.get z
    let c := s.settings z
    let reading := x.reading.getD { t := 0, rh := 0 }
    let raw := x.raw.getD { t := 0, h := 0 }
    HoldsFields 9 (s.climatePart z)
      ([(9, 1, x.status.number), (10, 1, flagField x.reading.isSome + 2 * flagField x.raw.isSome),
        (11, 2, signedField 2 reading.t), (13, 2, signedField 2 reading.rh), (15, 2, raw.t.toNat), (17, 2, raw.h.toNat),
        (19, 1, x.staleCount), (20, 2, x.weight), (22, 3, a.dose), (25, 1, a.state.number)] ++
      [(26, 1, c.climate.period), (27, 1, c.climate.staleLimit), (28, 2, signedField 2 c.climate.rhTarget),
        (30, 1, signedField 1 c.climate.rhBand), (31, 2, signedField 2 c.climate.tTarget),
        (33, 1, signedField 1 c.climate.tBand), (34, 1, c.climate.recovery), (35, 3, c.climate.alert),
        (38, 3, c.climate.exposure), (41, 1, signedField 1 c.trims.t), (42, 1, signedField 1 c.trims.h)]) := by
  dsimp only
  rw [s.climatePart_eq]
  simp only [List.append_assoc, List.cons_append, List.nil_append]
  exact .byte rfl (.byte rfl (.word rfl (.word rfl (.word rfl (.word rfl (.byte rfl (.word rfl (.triple rfl (.byte rfl
    (.byte rfl (.byte rfl (.word rfl (.byte rfl (.word rfl (.byte rfl (.byte rfl (.triple rfl (.triple rfl (.byte rfl
      (.byte rfl (.nil _)))))))))))))))))))))

theorem State.climatePart_length (s : State) (z : Zone) : (s.climatePart z).length = 34 := by
  simp [s.climatePart_eq, be16, be24]

theorem FaultFlags.number_eq (f : FaultFlags) :
    f.number = flagField f.openSeen + 2 * flagField f.shortSeen + 4 * flagField f.alarmSeen := by
  obtain ⟨o, h, a⟩ := f
  cases o <;> cases h <;> cases a <;> rfl

theorem State.loopPart_eq (s : State) (z : Zone) :
    let l := (s.zones.get z).loop
    let c := (s.settings z).loop
    s.loopPart z =
      be16 (l.latest.elim 0xFFFF Prod.fst) ++ (byteOf (l.latest.elim 0xFF fun x => x.2.number) :: byteOf l.state.number ::
        byteOf l.trouble :: byteOf l.run :: byteOf (flagField l.ready) ::
          byteOf (flagField l.flags.openSeen + 2 * flagField l.flags.shortSeen + 4 * flagField l.flags.alarmSeen) ::
            (be16 c.openMax ++ (be16 c.normalMax ++ (be16 c.alarmMax ++ [byteOf c.policy.number, byteOf c.capture.number])))) := by
  cases h : (s.zones.get z).loop.latest <;> simp [State.loopPart, h, FaultFlags.number_eq, yesNo_eq, byteOf]

/-- What LS keeps of a zone's loop (R143). -/
theorem State.loopPart_holds (s : State) (z : Zone) :
    let l := (s.zones.get z).loop
    let c := (s.settings z).loop
    HoldsFields 43 (s.loopPart z)
      [(43, 2, l.latest.elim 0xFFFF Prod.fst), (45, 1, l.latest.elim 0xFF fun x => x.2.number), (46, 1, l.state.number),
        (47, 1, l.trouble), (48, 1, l.run), (49, 1, flagField l.ready),
        (50, 1, flagField l.flags.openSeen + 2 * flagField l.flags.shortSeen + 4 * flagField l.flags.alarmSeen),
        (51, 2, c.openMax), (53, 2, c.normalMax), (55, 2, c.alarmMax), (57, 1, c.policy.number), (58, 1, c.capture.number)] := by
  dsimp only
  rw [s.loopPart_eq]
  exact .word rfl (.byte rfl (.byte rfl (.byte rfl (.byte rfl (.byte rfl (.byte rfl (.word rfl (.word rfl (.word rfl (.byte rfl
    (.byte rfl (.nil _))))))))))))

theorem State.loopPart_length (s : State) (z : Zone) : (s.loopPart z).length = 16 := by simp [s.loopPart_eq, be16]

/-- The whole seconds of a verification window under way, 0 without one (R163). -/
def FireState.windowSeconds : FireState → Nat
  | .prealarm left => left / 1000
  | _ => 0

/-- The whole seconds of a countdown under way and whether it is held, 0 and no without one (R163). -/
def FireState.countdownSeconds : FireState → Nat × Bool
  | .countdown left held => (left / 1000, held)
  | _ => (0, false)

theorem FireState.timerBytes_eq (f : FireState) : f.timerBytes =
    [byteOf f.windowSeconds, byteOf f.countdownSeconds.1, byteOf (flagField f.countdownSeconds.2)] := by
  cases f with
  | countdown left held => rw [← yesNo_eq]; rfl
  | _ => rfl

theorem alarmTimeBytes_eq (a : Option AlarmTime) :
    alarmTimeBytes a = byteOf (a.elim 0 fun t => if t.valid then 2 else 1) :: be32 (a.elim 0 AlarmTime.value) := by
  cases a with
  | none => rfl
  | some t => cases h : t.valid <;> simp [alarmTimeBytes, h, byteOf]

/-- Whether the bank is committed to a zone, and the whole seconds of the pulse that it then has left (R163). -/
def Bank.pulseFields (b : Bank) (z : Zone) : Nat × Nat :=
  match b with
  | .committed z' left => if z' = z then (1, left / 1000) else (0, 0)
  | _ => (0, 0)

theorem Bank.zoneBytes_eq (b : Bank) (z : Zone) : b.zoneBytes z = [byteOf (b.pulseFields z).1, byteOf (b.pulseFields z).2] := by
  cases b with
  | committed z' left => by_cases h : z' = z <;> simp [Bank.zoneBytes, Bank.pulseFields, h, wholeSeconds, byteOf]
  | _ => rfl

theorem State.firePart_eq (s : State) (z : Zone) :
    let v := s.zones.get z
    let r := (s.settings z).release
    s.firePart z =
      byteOf v.fire.number :: byteOf v.fire.windowSeconds :: byteOf v.fire.countdownSeconds.1 ::
        byteOf (flagField v.fire.countdownSeconds.2) :: byteOf (v.alarmTime.elim 0 fun t => if t.valid then 2 else 1) ::
          (be32 (v.alarmTime.elim 0 AlarmTime.value) ++ (byteOf (flagField r.enabled) ::
            (be16 (signedField 2 r.heatAbs) ++ (byteOf (signedField 1 r.heatRise) :: byteOf s.live.release.window ::
              byteOf s.live.release.countdown :: byteOf s.live.release.pulse ::
                [byteOf (s.bank.pulseFields z).1, byteOf (s.bank.pulseFields z).2])))) := by
  simp only [State.firePart, State.fire, FireState.timerBytes_eq, alarmTimeBytes_eq, Bank.zoneBytes_eq, yesNo_eq, beS8_eq_byte,
    beS16_eq_word, List.append_assoc, List.cons_append, List.nil_append]

/-- What RS keeps of a zone, with the bank's part in it (R163). -/
theorem State.firePart_holds (s : State) (z : Zone) :
    let v := s.zones.get z
    let r := (s.settings z).release
    HoldsFields 59 (s.firePart z)
      [(59, 1, v.fire.number), (60, 1, v.fire.windowSeconds), (61, 1, v.fire.countdownSeconds.1),
        (62, 1, flagField v.fire.countdownSeconds.2), (63, 1, v.alarmTime.elim 0 fun t => if t.valid then 2 else 1),
        (64, 4, v.alarmTime.elim 0 AlarmTime.value), (68, 1, flagField r.enabled), (69, 2, signedField 2 r.heatAbs),
        (71, 1, signedField 1 r.heatRise), (72, 1, s.live.release.window), (73, 1, s.live.release.countdown),
        (74, 1, s.live.release.pulse), (75, 1, (s.bank.pulseFields z).1), (76, 1, (s.bank.pulseFields z).2)] := by
  dsimp only
  rw [s.firePart_eq]
  exact .byte rfl (.byte rfl (.byte rfl (.byte rfl (.byte rfl (.quad rfl (.byte rfl (.word rfl (.byte rfl (.byte rfl (.byte rfl
    (.byte rfl (.byte rfl (.byte rfl (.nil _))))))))))))))

theorem State.firePart_length (s : State) (z : Zone) : (s.firePart z).length = 18 := by simp [s.firePart_eq, be16, be32]

/-- Settles O10: the four parts of the report, each behind the ones before it. -/
theorem zoneReportLayout : Obligations.ZoneReportLayout := by
  intro s z
  have zoneLength := s.zonePart_length z
  have climateLength := s.climatePart_length z
  have loopLength := s.loopPart_length z
  have climate := (s.climatePart_holds z).laidOut_between zoneLength (s.loopPart z ++ s.firePart z)
  rw [← List.append_assoc] at climate
  have loop := (s.loopPart_holds z).laidOut_between (start := s.zonePart z ++ s.climatePart z)
    (by rw [List.length_append, zoneLength, climateLength]) (s.firePart z)
  have fire := (s.firePart_holds z).laidOut_behind (start := s.zonePart z ++ s.climatePart z ++ s.loopPart z)
    (by rw [List.length_append, List.length_append, zoneLength, climateLength, loopLength])
  have zone := (s.zonePart_holds z).laidOut_between (start := []) rfl (s.climatePart z ++ s.loopPart z ++ s.firePart z)
  rw [List.nil_append, ← List.append_assoc, ← List.append_assoc] at zone
  obtain ⟨account, settings⟩ := List.forall_mem_append.mp climate
  refine ⟨?_, List.forall_mem_append.mpr ⟨zone, account⟩, settings, loop, fire⟩
  simp [State.zoneReport, zoneLength, climateLength, loopLength, s.firePart_length]

end Sys2Proof.Machine
end

section
/-! STATUS and READ_CONDITIONING (R126, R177, R178, R180), and the event flags with ATTN (R179). -/

namespace Sys2Proof.Machine

open Host

/-! ### The flags and their bits (R177, R179) -/

/-- A bit of the event word is some flag's. -/
theorem EventFlag.exists_priority {i : Nat} (hi : i < 24) : ∃ f : EventFlag, i + 1 = f.priority := by
  have numbered : ∀ i : Fin 24, EventFlag.byPriority[i.val].priority = i.val + 1 := by decide
  exact ⟨_, (numbered ⟨i, hi⟩).symm⟩

theorem EventFlag.priority_pos (f : EventFlag) : 0 < f.priority := by cases f <;> decide

/-- The flag of priority p stands at bit p - 1 (R177). -/
theorem EventFlag.mask_getLsbD (f : EventFlag) (i : Nat) : f.mask.getLsbD i = decide (i + 1 = f.priority) := by
  have := f.priority_pos
  have := f.priority_bound
  rw [Bool.eq_iff_iff]
  simp only [EventFlag.mask, BitVec.getLsbD_shiftLeft, BitVec.getLsbD_one, Bool.and_eq_true, decide_eq_true_eq,
    Bool.not_eq_true', decide_eq_false_iff_not]
  omega

/-- A bit of an event word is set exactly where some flag's is. -/
theorem exists_flag_of_getLsbD {flags : BitVec 24} {i : Nat} (h : flags.getLsbD i = true) :
    ∃ f : EventFlag, i = f.priority - 1 ∧ flags.getLsbD (f.priority - 1) = true := by
  obtain ⟨f, hf⟩ := EventFlag.exists_priority (BitVec.lt_of_getLsbD h)
  have place : i = f.priority - 1 := by omega
  exact ⟨f, place, place ▸ h⟩

/-- An event word is not 0 exactly when some flag in it is set. -/
theorem ne_zero_iff_flag (flags : BitVec 24) : flags ≠ 0 ↔ ∃ f : EventFlag, flags.getLsbD (f.priority - 1) = true := by
  constructor
  · intro h
    by_contra none
    refine h (BitVec.eq_of_getLsbD_eq fun i _ => ?_)
    rw [BitVec.ofNat_eq_ofNat, BitVec.getLsbD_zero, Bool.eq_false_iff]
    intro hi
    obtain ⟨f, _, hf⟩ := exists_flag_of_getLsbD hi
    exact none ⟨f, hf⟩
  · rintro ⟨f, hf⟩ rfl
    exact absurd hf (by simp)

/-- The pending flag that STATUS reports is the set one of the lowest priority number (R180). -/
theorem highestPending_eq {flags : BitVec 24} {f : EventFlag} (hf : flags.getLsbD (f.priority - 1) = true)
    (least : ∀ g : EventFlag, flags.getLsbD (g.priority - 1) = true → f.priority ≤ g.priority) :
    highestPending flags = f.priority := by
  have found : (List.range 24).find? (fun i => flags.getLsbD i) = some (f.priority - 1) := by
    rw [List.find?_range_eq_some]
    refine ⟨hf, List.mem_range.mpr f.priority_bound, fun j hj => ?_⟩
    rw [Bool.not_eq_true', Bool.eq_false_iff]
    intro set
    obtain ⟨g, rfl, hg⟩ := exists_flag_of_getLsbD set
    have := least g hg
    omega
  rw [highestPending, found]
  exact Nat.sub_add_cancel f.priority_pos

/-- ATTN follows the flags that are set and enabled (R179). -/
theorem State.attentionLow_iff (s : State) : s.attentionLow = true ↔
    s.phase = .running ∧ ∃ f : EventFlag, s.flag f = true ∧ s.live.enables.getLsbD (f.priority - 1) = true := by
  rw [State.attentionLow, Bool.and_eq_true, decide_eq_true_eq, decide_eq_true_eq, ne_zero_iff_flag]
  simp only [BitVec.getLsbD_and, Bool.and_eq_true, State.flag]

theorem State.raise_flag_eq (s : State) (f g : EventFlag) : (s.raise f).flag g = (s.flag g || decide (f = g)) := by
  rw [Bool.eq_iff_iff, State.raise_flag, Bool.or_eq_true, decide_eq_true_eq, eq_comm (a := g)]

theorem getLsbD_and_not (flags choice : BitVec 24) (i : Nat) :
    (flags &&& ~~~choice).getLsbD i = (flags.getLsbD i && !choice.getLsbD i) := by
  rw [BitVec.getLsbD_and, BitVec.getLsbD_not]
  by_cases hi : i < 24
  · rw [decide_eq_true hi, Bool.true_and]
  · rw [BitVec.getLsbD_of_ge flags i (Nat.le_of_not_lt hi), Bool.false_and, Bool.false_and]

/-- Settles O47: the flags by their bits, ATTN by the flags set and enabled. -/
theorem flagsAndAttention : Obligations.FlagsAndAttention :=
  ⟨fun _ f i => ⟨f.mask_getLsbD i, rfl⟩, fun s f g => ⟨s.raise_flag_eq f g, rfl⟩, State.attentionLow_iff,
    fun s choice htake => ⟨s.flags &&& ~~~choice, takeRequest_accepted htake rfl, getLsbD_and_not s.flags choice⟩⟩

/-! ### STATUS (R177) -/

/-- What STATUS sends ahead of the zones. -/
def State.statusHead (s : State) : List Byte :=
  be24 s.flags.toNat ++ (be24 s.live.enables.toNat ++ [byteOf (highestPending s.flags), byteOf (manifestStateNumber s.manifest),
    byteOf (flagField s.storeBusy), byteOf (flagField s.ret.clockValid), byteOf s.bank.number])

/-- What STATUS sends of one zone. -/
def State.statusZone (s : State) (z : Zone) : List Byte :=
  [byteOf (s.mode z).number, byteOf (s.fire z).number, byteOf (s.climate z).number]

theorem State.statusBytes_eq (s : State) : s.statusBytes = s.statusHead ++ Zone.all.flatMap s.statusZone := by
  rw [State.statusHead, ← List.append_assoc, ← yesNo_eq, ← yesNo_eq]; rfl

theorem State.statusHead_length (s : State) : s.statusHead.length = 11 := rfl

theorem State.statusHead_holds (s : State) : HoldsFields 0 s.statusHead
    [(0, 3, s.flags.toNat), (3, 3, s.live.enables.toNat), (6, 1, highestPending s.flags),
      (7, 1, manifestStateNumber s.manifest), (8, 1, flagField s.storeBusy), (9, 1, flagField s.ret.clockValid),
      (10, 1, s.bank.number)] :=
  .triple rfl (.triple rfl (.byte rfl (.byte rfl (.byte rfl (.byte rfl (.byte rfl (.nil _)))))))

theorem State.statusZones_length (s : State) (zs : List Zone) : (zs.flatMap s.statusZone).length = 3 * zs.length := by
  induction zs with
  | nil => rfl
  | cons z zs ih => rw [List.flatMap_cons, List.length_append, ih, List.length_cons, Nat.mul_succ, Nat.add_comm]; rfl

/-- The zones before a zone, the zone and the zones after it, in the order of their numbers. -/
theorem Zone.all_split (z : Zone) : Zone.all = Zone.all.take (z.number - 1) ++ z :: Zone.all.drop z.number := by cases z <;> rfl

theorem Zone.before_length (z : Zone) : (Zone.all.take (z.number - 1)).length + 1 = z.number := by cases z <;> rfl

theorem State.statusZone_holds (s : State) (z : Zone) : HoldsFields (8 + 3 * z.number) (s.statusZone z)
    [(8 + 3 * z.number, 1, (s.mode z).number), (9 + 3 * z.number, 1, (s.fire z).number),
      (10 + 3 * z.number, 1, (s.climate z).number)] := by
  rw [Nat.add_comm 8, Nat.add_comm 9, Nat.add_comm 10]
  exact .byte rfl (.byte rfl (.byte rfl (.nil _)))

/-- STATUS holds the three numbers of each zone at the zone's place. -/
theorem State.statusBytes_zone (s : State) (z : Zone) : laidOut s.statusBytes
    [(8 + 3 * z.number, 1, (s.mode z).number), (9 + 3 * z.number, 1, (s.fire z).number),
      (10 + 3 * z.number, 1, (s.climate z).number)] := by
  have start : (s.statusHead ++ (Zone.all.take (z.number - 1)).flatMap s.statusZone).length = 8 + 3 * z.number := by
    rw [List.length_append, s.statusHead_length, s.statusZones_length]
    have := Zone.before_length z
    omega
  have holds := (s.statusZone_holds z).laidOut_between start ((Zone.all.drop z.number).flatMap s.statusZone)
  rw [s.statusBytes_eq, Zone.all_split z, List.flatMap_append, List.flatMap_cons]
  simpa only [List.append_assoc] using holds

theorem State.statusBytes_length (s : State) : s.statusBytes.length = 32 := by
  rw [s.statusBytes_eq, List.length_append, s.statusZones_length]; rfl

/-! ### READ_CONDITIONING (R126, R178) -/

/-- The smallest hold from a hold on: the holds of the other records are folded into it. -/
theorem foldl_minHold_some (rs : List Record) (h : Nat) :
    rs.foldl (fun h r => minHold h r.hold) (some h) = some ((rs.filterMap Record.hold).foldl min h) := by
  induction rs generalizing h with
  | nil => rfl
  | cons r rs ih =>
    cases hr : r.hold with
    | none => rw [List.foldl_cons, List.filterMap_cons_none hr, hr, ← ih]; rfl
    | some k => rw [List.foldl_cons, List.filterMap_cons_some hr, hr, List.foldl_cons, ← ih]; rfl

theorem smallestHold_eq (rs : List Record) : smallestHold rs = (rs.filterMap Record.hold).min? := by
  rw [smallestHold]
  induction rs with
  | nil => rfl
  | cons r rs ih =>
    cases hr : r.hold with
    | none => rw [List.foldl_cons, List.filterMap_cons_none hr, hr, ← ih]; rfl
    | some k => rw [List.foldl_cons, List.filterMap_cons_some hr, hr, List.min?_cons', ← foldl_minHold_some]; rfl

/-- The three conditions of the conditioning gate in one byte (R121, R178). -/
theorem State.gateBits_eq (s : State) :
    ((if s.chamberFresh then 1 else 0) + (if s.climate .zc ≠ .excursion then 2 else 0)
        + (if s.fire .zc = .quiet then 4 else 0) : Nat) =
      flagField (decide ((s.zones.get .zc).sensor.status = .fresh)) + 2 * flagField (!s.inExcursion .zc)
        + 4 * flagField (decide (s.fire .zc = .quiet)) := by
  simp only [State.chamberFresh, State.inExcursion, flagField, ← decide_not, decide_eq_true_eq, mul_ite, Nat.mul_one,
    Nat.mul_zero, ne_eq]

theorem State.conditioningBytes_holds (s : State) : HoldsFields 0 s.conditioningBytes
    [(0, 1, s.live.conditioning.kT), (1, 1, s.live.conditioning.kH), (2, 1, s.live.conditioning.base),
      (3, 1, flagField s.gateOpen),
      (4, 1, flagField (decide ((s.zones.get .zc).sensor.status = .fresh)) + 2 * flagField (!s.inExcursion .zc)
        + 4 * flagField (decide (s.fire .zc = .quiet))),
      (5, 2, (s.ret.records.filter Record.isConditioning).length),
      (7, 2, (s.ret.records.filter fun r => decide (r.state = .ready)).length),
      (9, 2, (s.ret.records.filterMap Record.hold).min?.getD 0)] := by
  simp only [State.conditioningBytes, List.append_assoc, List.cons_append, List.nil_append]
  exact .byte rfl (.byte rfl (.byte rfl (.byte (yesNo_eq _) (.byte (congrArg byteOf s.gateBits_eq) (.word rfl (.word rfl
    (.lastWord (congrArg (Option.getD · 0) (smallestHold_eq _)))))))))

/-- Settles O11: STATUS ahead of the zones and zone by zone, and READ_CONDITIONING, by their fields. -/
theorem statusAndConditioningLayout : Obligations.StatusAndConditioningLayout := by
  refine ⟨fun s => ⟨s.statusBytes_length, ?_, fun z _ => s.statusBytes_zone z⟩,
    fun s f hf least => highestPending_eq hf least, by decide, fun s => ⟨rfl, s.conditioningBytes_holds.laidOut_behind (start := []) rfl⟩⟩
  rw [s.statusBytes_eq]
  exact s.statusHead_holds.laidOut_between (start := []) rfl _

end Sys2Proof.Machine
end

section
/-! The settings store: the write that STORE_SETTINGS begins and STORE_WRITE_COMPLETE ends (R187, R188). -/

namespace Sys2Proof.Machine

open Host

/-! ### A store write completes (R187, R188) -/

theorem bankRecordAfter_eq (pending record : Option BankRecord) :
    bankRecordAfter pending record = if pending.isSome then pending else record := by
  cases pending <;> rfl

theorem State.storeBusy_iff (s : State) : s.storeBusy = true ↔ ∃ x, s.store.writing = some x := Option.isSome_iff_exists

/-- The values under write stand under the valid mark, and a bank write that waited for them is made (R187, R188). -/
theorem State.storeComplete_writing {s : State} {x : Tunables} (h : s.store.writing = some x) : s.storeComplete =
    { s with
      store :=
        { stored := x, valid := true, writing := none
          bank := if s.ret.pendingBank.isSome then s.ret.pendingBank else s.store.bank }
      ret := { s.ret with pendingBank := none } } := by
  simp only [State.storeComplete, h, bankRecordAfter_eq]

theorem State.storeComplete_idle {s : State} (h : s.store.writing = none) : s.storeComplete = s := by
  simp only [State.storeComplete, h]

/-- Settles O49: STORE_SETTINGS is judged by the store alone, and the event by whether a write is in progress. -/
theorem storeWritesAreMade : Obligations.StoreWritesAreMade := by
  refine ⟨State.storeBusy_iff, fun s htake => judged_storeBusy htake rfl, fun s x hp hw => ?_, fun s _ hw => ?_⟩
  · exact (whileRunning_running hp).trans (congrArg Outcome.next (State.storeComplete_writing hw))
  · exact whileRunning_unchanged (State.storeComplete_idle hw)

end Sys2Proof.Machine
end

section
/-! Start-up after a loss of retained memory establishes every part of the invariant, whatever stood before, given a sound
settings store (R186, R189, R190); the state after reset is such a start-up of a part whose store was never written. -/

namespace Sys2Proof.Machine

open Host

/-- The laws of the table, the staged records, the couriers and links, the zones and settings, and the bank make up the
invariant. -/
theorem State.Inv.of_laws {s : State} (custody : s.CustodyLaw) (staged : s.StagedMatch) (hall : s.HallLaw) (zone : s.ZoneLaw)
    (vault : s.VaultLaw) : s.Inv :=
  let ⟨handover, timers⟩ := s.deskLaw_iff.mp hall.desk
  { table := custody.tableWf
    bounds := custody.bounds
    marks := custody.marksLaw
    couriers := s.couriersWf_iff.mpr hall.couriers
    staged := (s.stagedLaw_iff custody.order).mpr staged
    handover
    timers
    zones := zone.zonesWf
    settings := zone.settingsWf
    bank := vault.bankLaw
    start := vault.start
    links := s.linksWf_iff.mpr hall.links }

/-- After a loss the table is empty and the boundaries are the factory ones (R32, R189). -/
theorem State.startUp_lost_custodyLaw (s : State) : (s.startUp true).CustodyLaw :=
  { size := Nat.zero_le _
    order := List.Pairwise.nil
    slots := List.Pairwise.nil
    bounds := (by decide : Bounds.factory.wf)
    sound := nofun }

/-- After a loss no courier is enrolled, and start-up leaves no handover and the links waiting at their divisors (R172,
R189, R190). -/
theorem State.startUp_lost_hallLaw (s : State) : (s.startUp true).HallLaw :=
  { couriers := CourierLaw.of_lost
    links := fun k => by cases k <;> exact ⟨Link.atStart_wf _ _, fun _ _ => rfl⟩
    desk := .of_untimed ⟨nofun, nofun, rfl, rfl, nofun⟩ nofun }

/-- A loss sets every dose to 0 and every climate state to NOMINAL (R189). -/
theorem Retained.afterLoss_account_wf (z : Zone) : (Retained.afterLoss.climate.get z).wf = true := by
  rw [Retained.afterLoss, PerZone.get_tabulate]; decide

/-- The tunables that start-up loads are the stored ones under the valid mark, and the factory ones without it (R186). -/
theorem Store.loaded_wf {x : Store} (h : x.valid = true → x.stored.wf = true) : x.loaded.wf = true := by
  unfold Store.loaded
  split
  · next hv => exact h hv
  · exact Tunables.factory_wf

/-- After a loss every zone begins afresh with the loaded tunables, and the clock at 0 (R186, R189, R190). -/
theorem State.startUp_lost_zoneLaw {s : State} (hstored : s.store.valid = true → s.store.stored.wf = true)
    (hidle : s.store.writing = none) : (s.startUp true).ZoneLaw :=
  { accounts := Retained.afterLoss_account_wf
    zones := fun z => by
      have begun : (s.startUp true).zones.get z = ZoneState.atStart (s.store.loaded.zones.get z).startMode :=
        PerZone.get_tabulate _ z
      rw [begun]; exact ZoneState.atStart_lawful ..
    live := Store.loaded_wf hstored
    stored := fun hv => ⟨hstored hv, hidle⟩
    writing := fun w hw => absurd (hidle.symm.trans hw).symm (Option.some_ne_none w)
    clock := Nat.zero_le _ }

/-- Start-up after a loss establishes the invariant from any state whose settings store is sound and idle. -/
theorem State.startUp_lost_inv {s : State} (hstored : s.store.valid = true → s.store.stored.wf = true)
    (hidle : s.store.writing = none) : (s.startUp true).Inv :=
  .of_laws s.startUp_lost_custodyLaw (.startUp s true) s.startUp_lost_hallLaw (State.startUp_lost_zoneLaw hstored hidle)
    (.startUp s true)

/-- The part after reset is one that start-up has rebuilt after a loss: a further such start-up changes nothing of it. -/
theorem State.startUp_reset : State.reset.startUp true = State.reset := rfl

/-- Settles O53: the state after reset is a start-up after a loss, with a store that was never written. -/
theorem resetSatisfiesInv : Obligations.ResetSatisfiesInv := by
  have inv : (State.reset.startUp true).Inv := State.startUp_lost_inv nofun rfl
  rwa [State.startUp_reset] at inv

end Sys2Proof.Machine
end
